-- ==== Sys2Proof/Config.lean ====
section
/-! DEFINITION. The open parameters of the block (rule R4) and the values the spec leaves to the
bus transport and the sensor (rules R8, R33), which no proof can see. -/

namespace Sys2Proof.Config

/-- The two open parameters of R4, which a model takes as arguments (R4, R27, D2). They are an argument of a step
with the other things a step is given, and no step changes them (log 1). Which pairs are legal: WellFormed.lean. -/
structure Params where
  /-- `CW`, the width in bits of a Celsius port. -/
  cw : Nat
  /-- `FW`, the number of fraction bits of a Celsius port. -/
  fw : Nat
  deriving DecidableEq, Repr

/-- R4: the defaults, `CW = 32` and `FW = 20`. -/
def defaults : Params :=
  { cw := 32, fw := 20 }

/-- The outcome of one write event, chosen by the environment: `ok`, or `fail` (the source's TransportError).
A write event always gets an outcome (R33, R176, log 4). -/
inductive WriteOutcome where
  | ok
  | fail
  deriving DecidableEq, Repr, Inhabited

/-- The outcome of one read event (R33): `ok` with two arbitrary bytes, `first` the first received (R38);
`fail`; or `never`, the read that blocks for ever (R176). -/
inductive ReadOutcome where
  | ok (first second : BitVec 8)
  | fail
  | never
  deriving DecidableEq, Repr, Inhabited

/-- The free outcome of the k-th write event, used where the state scripts no answer (R33: "free inputs of the
step (a draw)"; log 3). It has no body: no proof can know a value of it. -/
opaque freeWriteOutcome : Nat → WriteOutcome

/-- The free outcome of the k-th read event, its two bytes included (R33, log 3). It has no body. -/
opaque freeReadOutcome : Nat → ReadOutcome

end Sys2Proof.Config
end

