-- ==== Sys2Proof/Word.lean ====
section
/-! DEFINITION. The words of the block: bytes, bits, bus addresses, Celsius patterns, the closed code sets of
the ports (R56, R57, R62), and a request as the tuple of ports the spec gives it (R50, R54). -/

namespace Sys2Proof

/-- A byte; bit 7 is its most significant bit (R5). -/
abbrev Byte := BitVec 8

/-- A one-bit port or field. -/
abbrev Bit := BitVec 1

/-- A 7-bit bus address (R13, R64). -/
abbrev BusAddr := BitVec 7

/-- The pattern on a Celsius port, as an unsigned number. The port is `CW` bits wide (R6, R54), and `CW` is a parameter,
so the width is a check (WellFormed.lean) and no part of the type; who reads the port takes its low `CW` bits (log 1). -/
abbrev Celsius := Nat

/-- The resolution code (R16, R56); the numbers are in Decode.lean. -/
inductive Resolution where
  | res9
  | res10
  | res11
  | res12
  deriving DecidableEq, Repr, Inhabited

/-- The fault-tolerance code, in consecutive out-of-limit readings (R17, R57); the numbers are in Decode.lean. -/
inductive FaultTolerance where
  | ft1
  | ft2
  | ft4
  | ft6
  deriving DecidableEq, Repr, Inhabited

/-- The register pointer (R23, R62); the numbers are in Decode.lean. -/
inductive Pointer where
  | temp
  | config
  | hyst
  | trip
  deriving DecidableEq, Repr, Inhabited

/-- One request: the operation select `op[3:0]` and every operand port of R54, each as wide as R54 gives it;
the three Celsius ports are `CW` bits wide, which `Request.fits` checks. -/
structure Request where
  op   : BitVec 4
  high : Byte
  low  : Byte
  c    : Celsius
  trip : Celsius
  hyst : Celsius
  res  : BitVec 2
  ft   : BitVec 2
  nvb  : Bit
  pol  : Bit
  tm   : Bit
  sd   : Bit
  byte : Byte
  a2   : Bit
  a1   : Bit
  a0   : Bit
  ptr  : BitVec 2
  deriving DecidableEq, Repr

/-- The all-zero request: operation select 0x0 and every port at zero (R53). -/
def Request.zero : Request :=
  { op := 0, high := 0, low := 0, c := 0, trip := 0, hyst := 0, res := 0, ft := 0, nvb := 0, pol := 0,
    tm := 0, sd := 0, byte := 0, a2 := 0, a1 := 0, a0 := 0, ptr := 0 }

end Sys2Proof
end

