-- ==== Sys2Proof/Syntax.lean ====
section
/-! DEFINITION. The operations of the block, one constructor per row of spec/opcode_table.json (R52, R53).
Every operand is exactly as wide as its port but a Celsius pattern, whose width `CW` is a parameter (WellFormed.lean). -/

namespace Sys2Proof

/-- The eleven operations of R52 and the five reserved codes of R53, with the operands each one names. -/
inductive Instr where
  /-- 0x1 DECODE: register value to Celsius value (R80). -/
  | decode (high low : Byte)
  /-- 0x2 ENCODE: Celsius value to register value (R84). -/
  | encode (c : Celsius)
  /-- 0x3 RESMUX: the resolution multiplexer (R88). -/
  | resmux (res : Resolution) (low : Byte)
  /-- 0x4 CFGPACK: six fields to one configuration byte (R100). -/
  | cfgpack (nvb : Bit) (res : Resolution) (ft : FaultTolerance) (pol tm sd : Bit)
  /-- 0x5 CFGUNPACK: one byte to six fields (R101). -/
  | cfgunpack (byte : Byte)
  /-- 0x6 BUSADDR: strap bits to bus address (R110). -/
  | busaddr (a2 a1 a0 : Bit)
  /-- 0x7 INIT: create the handle and write the first configuration (R112). -/
  | init (a2 a1 a0 : Bit) (res : Resolution)
  /-- 0x8 RDTEMP: read one temperature-format register and decode it (R116). -/
  | rdtemp (ptr : Pointer)
  /-- 0x9 THERM: validate, encode and write the setpoints and the fault tolerance (R120). -/
  | therm (trip hyst : Celsius) (ft : FaultTolerance)
  /-- 0xA SETCFG: raw configuration write (R128). -/
  | setcfg (byte : Byte)
  /-- 0xB CMD: send one command code (R130). -/
  | cmd (byte : Byte)
  /-- 0x0, a reserved code (R53). -/
  | reserved0
  /-- 0xC, a reserved code (R53). -/
  | reservedC
  /-- 0xD, a reserved code (R53). -/
  | reservedD
  /-- 0xE, a reserved code (R53). -/
  | reservedE
  /-- 0xF, a reserved code (R53). -/
  | reservedF
  deriving DecidableEq, Repr

end Sys2Proof
end

