-- ==== Sys2Proof/WellFormed.lean ====
section
/-! DEFINITION. The checks a term can fail: the constraint on the open parameters (R4); a Celsius pattern wider than
its port (R54); and a request that drives a port its operation does not name (R50, R52). The other operands have exactly
the width of their ports (R54), and all four patterns of each two-bit code are legal (R56, R57, R62). -/

namespace Sys2Proof

/-- R4: `FW >= 4` and `CW >= FW + 9`. -/
def paramsWellFormed (cw fw : Nat) : Bool :=
  decide (4 ≤ fw) && decide (fw + 9 ≤ cw)

/-- R4: a legal pair of parameters. -/
abbrev Config.Params.Legal (p : Config.Params) : Prop :=
  paramsWellFormed p.cw p.fw = true

/-- R54: the pattern is one a Celsius port of `cw` bits can carry. -/
def celsiusFits (cw : Nat) (c : Celsius) : Bool :=
  decide (c < 2 ^ cw)

/-- R54: every Celsius pattern of the instruction is as wide as its port. -/
def Instr.wellFormed (cw : Nat) : Instr → Bool
  | .decode .. => true
  | .encode c => celsiusFits cw c
  | .resmux .. => true
  | .cfgpack .. => true
  | .cfgunpack .. => true
  | .busaddr .. => true
  | .init .. => true
  | .rdtemp .. => true
  | .therm trip hyst _ => celsiusFits cw trip && celsiusFits cw hyst
  | .setcfg .. => true
  | .cmd .. => true
  | .reserved0 => true
  | .reservedC => true
  | .reservedD => true
  | .reservedE => true
  | .reservedF => true

/-- R54: the three Celsius ports of the request carry patterns of `cw` bits. -/
def Request.fits (cw : Nat) (r : Request) : Bool :=
  celsiusFits cw r.c && celsiusFits cw r.trip && celsiusFits cw r.hyst

/-- The request `r` with the ports its operation names (R52) cleared, and its operation select cleared. -/
def Request.unnamedPorts (r : Request) : Request :=
  match r.op.toNat with
  | 1 => { r with op := 0, high := 0, low := 0 }
  | 2 => { r with op := 0, c := 0 }
  | 3 => { r with op := 0, res := 0, low := 0 }
  | 4 => { r with op := 0, nvb := 0, res := 0, ft := 0, pol := 0, tm := 0, sd := 0 }
  | 5 => { r with op := 0, byte := 0 }
  | 6 => { r with op := 0, a2 := 0, a1 := 0, a0 := 0 }
  | 7 => { r with op := 0, a2 := 0, a1 := 0, a0 := 0, res := 0 }
  | 8 => { r with op := 0, ptr := 0 }
  | 9 => { r with op := 0, trip := 0, hyst := 0, ft := 0 }
  | 10 => { r with op := 0, byte := 0 }
  | 11 => { r with op := 0, byte := 0 }
  | _ => { r with op := 0 }

/-- A request that drives only the ports its operation names. The block accepts any other request too and
ignores the rest (R50); this is the form in which a request and its instruction determine each other. -/
def Request.canonical (r : Request) : Bool :=
  decide (r.unnamedPorts = Request.zero)

end Sys2Proof
end

