-- ==== Sys2Proof/Decode.lean ====
section
/-! DEFINITION. From a request to the operation it selects, and back (R50 to R57, R62); the numbers of the port
codes; and the bit image in which this model writes a request as one number (log 6). -/

namespace Sys2Proof

/-! ## The numbers of the closed code sets -/

/-- R56: 0, 1, 2, 3 stand for 9, 10, 11, 12 bits (log 18). -/
def Resolution.code : Resolution → BitVec 2
  | .res9 => 0
  | .res10 => 1
  | .res11 => 2
  | .res12 => 3

/-- R56: all four patterns are legal. -/
def Resolution.ofCode (c : BitVec 2) : Resolution :=
  if c = 0 then .res9 else if c = 1 then .res10 else if c = 2 then .res11 else .res12

/-- R57: 0, 1, 2, 3 stand for 1, 2, 4, 6 readings (log 18). -/
def FaultTolerance.code : FaultTolerance → BitVec 2
  | .ft1 => 0
  | .ft2 => 1
  | .ft4 => 2
  | .ft6 => 3

/-- R57: all four patterns are legal. -/
def FaultTolerance.ofCode (c : BitVec 2) : FaultTolerance :=
  if c = 0 then .ft1 else if c = 1 then .ft2 else if c = 2 then .ft4 else .ft6

/-- R62: TEMP=0, CONFIG=1, HYST=2, TRIP=3. -/
def Pointer.code : Pointer → BitVec 2
  | .temp => 0
  | .config => 1
  | .hyst => 2
  | .trip => 3

/-- R62: the four values of the two-bit operand `ptr`. -/
def Pointer.ofCode (c : BitVec 2) : Pointer :=
  if c = 0 then .temp else if c = 1 then .config else if c = 2 then .hyst else .trip

/-! ## Decoding a request -/

/-- R52, R53: `op` alone selects the operation and is compared whole; the operation takes the ports it names and
ignores the others (R50, R51). The last arm is reached by 0xF only, since `op` has four bits. -/
def decodeInstr (r : Request) : Instr :=
  match r.op.toNat with
  | 0 => .reserved0
  | 1 => .decode r.high r.low
  | 2 => .encode r.c
  | 3 => .resmux (Resolution.ofCode r.res) r.low
  | 4 => .cfgpack r.nvb (Resolution.ofCode r.res) (FaultTolerance.ofCode r.ft) r.pol r.tm r.sd
  | 5 => .cfgunpack r.byte
  | 6 => .busaddr r.a2 r.a1 r.a0
  | 7 => .init r.a2 r.a1 r.a0 (Resolution.ofCode r.res)
  | 8 => .rdtemp (Pointer.ofCode r.ptr)
  | 9 => .therm r.trip r.hyst (FaultTolerance.ofCode r.ft)
  | 10 => .setcfg r.byte
  | 11 => .cmd r.byte
  | 12 => .reservedC
  | 13 => .reservedD
  | 14 => .reservedE
  | _ => .reservedF

/-! ## The bit image of a request

DESIGN CHOICE (log 6): the spec gives `op` the bits 3 to 0 and gives the ports no position, so the image puts
them above `op` in the order of R54, each with its bit 0 lowest. Where the Celsius ports end depends on `CW`. -/

/-- The number of bits of the image: 4 for `op`, 37 for the other ports of R54, and three Celsius ports. -/
def imageWidth (cw : Nat) : Nat :=
  41 + 3 * cw

/-- The ports of R54 after the Celsius ports, `res` lowest, 21 bits. -/
def Request.upperImage (r : Request) : Nat :=
  r.res.toNat + 2 ^ 2 * r.ft.toNat + 2 ^ 4 * r.nvb.toNat + 2 ^ 5 * r.pol.toNat + 2 ^ 6 * r.tm.toNat
    + 2 ^ 7 * r.sd.toNat + 2 ^ 8 * r.byte.toNat + 2 ^ 16 * r.a2.toNat + 2 ^ 17 * r.a1.toNat + 2 ^ 18 * r.a0.toNat
    + 2 ^ 19 * r.ptr.toNat

/-- A request as one number: `op` in bits 3 to 0, then the ports of R54 in its order, each at its lowest bit; a
Celsius port gives its low `cw` bits. -/
def Request.image (cw : Nat) (r : Request) : Nat :=
  r.op.toNat + 2 ^ 4 * r.high.toNat + 2 ^ 12 * r.low.toNat
    + 2 ^ 20 * (r.c % 2 ^ cw + 2 ^ cw * (r.trip % 2 ^ cw + 2 ^ cw * (r.hyst % 2 ^ cw + 2 ^ cw * r.upperImage)))

/-- The request of which `w` is the image: each port takes the bits at its place, as many as it is wide. -/
def Request.ofImage (cw w : Nat) : Request :=
  { op := BitVec.ofNat _ w
    high := BitVec.ofNat _ (w / 2 ^ 4)
    low := BitVec.ofNat _ (w / 2 ^ 12)
    c := w / 2 ^ 20 % 2 ^ cw
    trip := w / 2 ^ (20 + cw) % 2 ^ cw
    hyst := w / 2 ^ (20 + 2 * cw) % 2 ^ cw
    res := BitVec.ofNat _ (w / 2 ^ (20 + 3 * cw))
    ft := BitVec.ofNat _ (w / 2 ^ (22 + 3 * cw))
    nvb := BitVec.ofNat _ (w / 2 ^ (24 + 3 * cw))
    pol := BitVec.ofNat _ (w / 2 ^ (25 + 3 * cw))
    tm := BitVec.ofNat _ (w / 2 ^ (26 + 3 * cw))
    sd := BitVec.ofNat _ (w / 2 ^ (27 + 3 * cw))
    byte := BitVec.ofNat _ (w / 2 ^ (28 + 3 * cw))
    a2 := BitVec.ofNat _ (w / 2 ^ (36 + 3 * cw))
    a1 := BitVec.ofNat _ (w / 2 ^ (37 + 3 * cw))
    a0 := BitVec.ofNat _ (w / 2 ^ (38 + 3 * cw))
    ptr := BitVec.ofNat _ (w / 2 ^ (39 + 3 * cw)) }

/-- Why a number is the image of no request. -/
inductive DecodeError where
  /-- It has a bit at or above `imageWidth`, where no port is. -/
  | beyondThePorts
  deriving DecidableEq, Repr

/-- The instruction of a request given as a number; total, refusing by name. Every image decodes, because each
of the sixteen operation codes is a row of the table. -/
def decodeImage (cw w : Nat) : Except DecodeError Instr :=
  if w < 2 ^ imageWidth cw then .ok (decodeInstr (Request.ofImage cw w))
  else .error .beyondThePorts

/-- The host's question about one row of the operation table: the instruction read from the bits `w` of an image
whose bits at and above `nbits` are zero, at the default widths (R4). -/
def decodeTableWord (nbits w : Nat) : Option Instr :=
  match decodeImage Config.defaults.cw (w % 2 ^ nbits) with
  | .ok i => some i
  | .error _ => none

/-! ## Encoding -/

/-- R67: "its `op` code plus the operand values"; the ports the operation does not name are zero. -/
def encodeInstr : Instr → Request
  | .decode high low => { Request.zero with op := 0x1, high := high, low := low }
  | .encode c => { Request.zero with op := 0x2, c := c }
  | .resmux res low => { Request.zero with op := 0x3, res := res.code, low := low }
  | .cfgpack nvb res ft pol tm sd =>
    { Request.zero with op := 0x4, nvb := nvb, res := res.code, ft := ft.code, pol := pol, tm := tm, sd := sd }
  | .cfgunpack byte => { Request.zero with op := 0x5, byte := byte }
  | .busaddr a2 a1 a0 => { Request.zero with op := 0x6, a2 := a2, a1 := a1, a0 := a0 }
  | .init a2 a1 a0 res => { Request.zero with op := 0x7, a2 := a2, a1 := a1, a0 := a0, res := res.code }
  | .rdtemp ptr => { Request.zero with op := 0x8, ptr := ptr.code }
  | .therm trip hyst ft => { Request.zero with op := 0x9, trip := trip, hyst := hyst, ft := ft.code }
  | .setcfg byte => { Request.zero with op := 0xA, byte := byte }
  | .cmd byte => { Request.zero with op := 0xB, byte := byte }
  | .reserved0 => { Request.zero with op := 0x0 }
  | .reservedC => { Request.zero with op := 0xC }
  | .reservedD => { Request.zero with op := 0xD }
  | .reservedE => { Request.zero with op := 0xE }
  | .reservedF => { Request.zero with op := 0xF }

/-- The image of an instruction's request. -/
def encodeImage (cw : Nat) (i : Instr) : Nat :=
  (encodeInstr i).image cw

/-- The mnemonic of R52, as spec/opcode_table.json spells it (R67). -/
def Instr.mnemonic : Instr → String
  | .decode .. => "DECODE"
  | .encode .. => "ENCODE"
  | .resmux .. => "RESMUX"
  | .cfgpack .. => "CFGPACK"
  | .cfgunpack .. => "CFGUNPACK"
  | .busaddr .. => "BUSADDR"
  | .init .. => "INIT"
  | .rdtemp .. => "RDTEMP"
  | .therm .. => "THERM"
  | .setcfg .. => "SETCFG"
  | .cmd .. => "CMD"
  | .reserved0 => "RESERVED_0"
  | .reservedC => "RESERVED_C"
  | .reservedD => "RESERVED_D"
  | .reservedE => "RESERVED_E"
  | .reservedF => "RESERVED_F"

end Sys2Proof
end

