-- ==== Sys2Proof/Machine/State.lean ====
section
/-! DEFINITION. The state of the block (10_state.md), its two observable outputs (the response of R50 and the
event history of R32), and the inputs a step reads: the host's requests and the environment's answers (R8). -/

namespace Sys2Proof.Machine

/-- Why a step has no next state. -/
inductive Fault where
  /-- Raised by `step` alone, in the state an RDTEMP leaves whose read never completes: the block accepts no
  further request and only a reset ends it (R176, "a state with no enabled step (stuck)"). Safe: the spec gives
  that state no step either. -/
  | readNeverCompletes
  deriving DecidableEq, Repr

/-- Why an instruction has no meaning here. -/
inductive Refusal where
  /-- Raised by an arm of `exec` whose instruction has no meaning yet. No arm raises it: every row of the
  operation table has its meaning. Safe. -/
  | notModelled (mnemonic : String)
  deriving DecidableEq, Repr

/-- The status of a response (R150); the two codes 6 and 7 are never produced, so the type has six names. -/
inductive Status where
  | ok
  | illegalOp
  | notInit
  | badPointer
  | validation
  | transport
  deriving DecidableEq, Repr, Inhabited

/-- The result ports of R59. A port the operation does not return carries no value, and neither does any port
of a response whose status is not OK (R7, R153): `none`, never a zero. -/
structure Results where
  cOut      : Option Celsius        := none
  highOut   : Option Byte           := none
  lowOut    : Option Byte           := none
  nfrac     : Option (BitVec 3)     := none
  mask      : Option Byte           := none
  lowMasked : Option Byte           := none
  byteOut   : Option Byte           := none
  nvbOut    : Option Bit            := none
  resOut    : Option Resolution     := none
  ftOut     : Option FaultTolerance := none
  polOut    : Option Bit            := none
  tmOut     : Option Bit            := none
  sdOut     : Option Bit            := none
  addrOut   : Option BusAddr        := none
  deriving DecidableEq, Repr

/-- No port carries a value. -/
def Results.empty : Results := {}

/-- The response of one request (R50, R150, R151). -/
structure Response where
  status  : Status
  info    : BitVec 3
  results : Results
  deriving DecidableEq, Repr

/-- One bus event with its outcome (R32, R33, log 15). -/
inductive Event where
  /-- `EvW(addr, bytes)`. -/
  | evW (addr : BusAddr) (bytes : List Byte) (outcome : Config.WriteOutcome)
  /-- `EvR(addr, count)`. -/
  | evR (addr : BusAddr) (count : Nat) (outcome : Config.ReadOutcome)
  deriving DecidableEq, Repr

/-- The device handle: what INIT creates and what does not exist before it (R9, R14). -/
structure Handle where
  /-- `BUS_ADDR` (R13). -/
  busAddr  : BusAddr
  /-- `CFG_CACHE` (R12): eight bits, bit 7 hardwired to zero by the one operation that writes it. -/
  cfgCache : Byte
  deriving DecidableEq, Repr

/-- What comes to the block from outside, one at a time: a request (R8, R50), or the reset event (R170). -/
inductive HostInput where
  | request (r : Request)
  | reset
  deriving DecidableEq, Repr

/-- The whole machine. The block's own state is `handle` (R12, R13, R14) and `hung` (R176); `history` and
`response` are its outputs; `params` are the parameters of R4, no state of the block (R27); `inputs` is the host's, the
last four fields are the environment's. -/
structure State where
  /-- `CW` and `FW`, the arguments of R4 and R27; the meanings read them and no step changes them (log 1). -/
  params       : Config.Params
  /-- `BUS_ADDR` and `CFG_CACHE`, which hold no value before INIT, and with them `INIT_DONE`, which is 1 exactly
  when they exist (R14, R25, log 2). -/
  handle       : Option Handle
  /-- Every event since reset with its outcome, oldest first (R32, log 9). -/
  history      : List Event
  /-- The response of the newest request that was taken; none where there is none (R22, R50, log 8). Nothing reads
  it. -/
  response     : Option Response
  /-- An RDTEMP waits for a read that never completes (R176, log 5). -/
  hung         : Bool
  /-- What the host will present, next first (log 7). -/
  inputs       : List HostInput
  /-- The outcomes scripted for the write events, by number of the event (log 3). -/
  writeAnswers : List Config.WriteOutcome
  /-- The outcomes scripted for the read events, by number of the event (log 3). -/
  readAnswers  : List Config.ReadOutcome
  /-- How many write outcomes have been drawn (log 3). -/
  writeDraws   : Nat
  /-- How many read outcomes have been drawn (log 3). -/
  readDraws    : Nat
  deriving DecidableEq, Repr

/-- `INIT_DONE` (R14). -/
def State.initDone (s : State) : Bool :=
  s.handle.isSome

/-- The block right after reset (R25, R170, R171): `INIT_DONE = 0`, no value in `CFG_CACHE` and `BUS_ADDR`, an
empty history. The parameters are the defaults of R4 (log 1). The other fields are the model's own (logs 3, 5, 7, 8). -/
def State.reset : State :=
  { params := Config.defaults
    handle := none
    history := []
    response := none
    hung := false
    inputs := []
    writeAnswers := []
    readAnswers := []
    writeDraws := 0
    readDraws := 0 }

end Sys2Proof.Machine
end

