-- ==== Sys2Proof/Machine/Operands.lean ====
section
/-! DEFINITION. The operand forms and the fixed numbers of the spec: Celsius operands and their bounds (R4, R6,
R55), resolution counts (R56), readings (R57), pointer bytes (R34, R62), command codes (R63), the field masks of
the configuration byte (R15). -/

namespace Sys2Proof.Machine

/-- R55: a Celsius operand is taken whole as `sint_CW(port)`, on a port of `cw` bits. -/
def sintOf (cw : Nat) (c : Celsius) : Int :=
  (BitVec.ofNat cw c).toInt

/-- R4: `T_MIN`, -55.0 degrees on a port with `fw` fraction bits. -/
def tMin (fw : Nat) : Int :=
  -55 * 2 ^ fw

/-- R4: `T_MAX`, 125.0 degrees on a port with `fw` fraction bits. -/
def tMax (fw : Nat) : Int :=
  125 * 2 ^ fw

/-- R85: both bounds inclusive, on the un-quantised operand. -/
def inRange (fw : Nat) (n : Int) : Bool :=
  decide (tMin fw ≤ n) && decide (n ≤ tMax fw)

/-- R64: the device-family prefix 0b1001 of the bus address, in place. -/
def addrPrefix : BusAddr :=
  0x48

/-- R34, R62: the pointer as the byte `zext_8(ptr)`. -/
def pointerByte (p : Pointer) : Byte :=
  p.code.zeroExtend 8

/-- R63: "recall non-volatile defaults". -/
def recallDefaults : Byte :=
  0xB8

/-- R63: "copy to non-volatile memory". -/
def copyToNvm : Byte :=
  0x48

/-- R63: "power-on reset" of the sensor; it does not reset the block (R170). -/
def powerOnReset : Byte :=
  0x54

/-- R57: how many consecutive out-of-limit readings the code stands for. -/
def readingsOf : FaultTolerance → Nat
  | .ft1 => 1
  | .ft2 => 2
  | .ft4 => 4
  | .ft6 => 6

/-- R56: how many bits the code stands for. -/
def bitsOf : Resolution → Nat
  | .res9 => 9
  | .res10 => 10
  | .res11 => 11
  | .res12 => 12

/-- R15: the field masks of the configuration byte. -/
def maskNvb : Byte := 0x80
/-- R15: resolution, bits 6 to 5. -/
def maskRes : Byte := 0x60
/-- R15: fault tolerance, bits 4 to 3. -/
def maskFt : Byte := 0x18
/-- R15: polarity, bit 2. -/
def maskPol : Byte := 0x04
/-- R15: operating mode, bit 1. -/
def maskTm : Byte := 0x02
/-- R15: shutdown, bit 0. -/
def maskSd : Byte := 0x01

end Sys2Proof.Machine
end

