-- ==== Sys2Proof/Machine/Flags.lean ====
section
/-! DEFINITION. The block has no condition codes and no stored flags (R22). What it computes in their place is the
status and the `info` of a response: their numbers (R150, R151) and the bits of the validation `info` (R120). -/

namespace Sys2Proof.Machine

/-- R150: the three bits on the status port. -/
def statusCode : Status → BitVec 3
  | .ok => 0
  | .illegalOp => 1
  | .notInit => 2
  | .badPointer => 3
  | .validation => 4
  | .transport => 5

/-- R151: `info` of VALIDATION from ENCODE. -/
def encodeInfo : BitVec 3 :=
  0b001

/-- R120, R151: `{v2, v1, v0}` on the un-quantised setpoints: bit 0 for a trip out of range, bit 1 for a
hysteresis out of range, bit 2 for a trip below the hysteresis; all failed tests together (R152). -/
def thermInfo (fw : Nat) (nt nh : Int) : BitVec 3 :=
  BitVec.ofBool (decide (nt < nh)) ++ BitVec.ofBool (!inRange fw nh) ++ BitVec.ofBool (!inRange fw nt)

end Sys2Proof.Machine
end

