-- ==== Sys2Proof/Machine/Ops.lean ====
section
/-! DEFINITION. The shared operations: updating the state, drawing the environment's answers (R33), the bus
events (R32) and the primitives built from them (R7), ending an operation with a response, and raising a status
(R161), which is what this block has in the place of an exception. -/

namespace Sys2Proof.Machine

/-! ## One update per part of the state -/

/-- The response ports take `r`. -/
def State.withResponse (s : State) (r : Option Response) : State :=
  { s with response := r }

/-- The handle is `h`, so `INIT_DONE` is 1. -/
def State.withHandle (s : State) (h : Handle) : State :=
  { s with handle := some h }

/-- The event `e` has happened and is recorded after all earlier ones (R32, R44). -/
def State.record (s : State) (e : Event) : State :=
  { s with history := s.history ++ [e] }

/-- One more write outcome has been drawn. -/
def State.drewWrite (s : State) : State :=
  { s with writeDraws := s.writeDraws + 1 }

/-- One more read outcome has been drawn. -/
def State.drewRead (s : State) : State :=
  { s with readDraws := s.readDraws + 1 }

/-- R12: `CFG_CACHE` takes the byte `b` with bit 7 hardwired to zero. Every write of the cache goes through
here (log 14). -/
def Handle.writeCache (h : Handle) (b : Byte) : Handle :=
  { h with cfgCache := b &&& 0x7F }

/-! ## Raising a status, and ending without one -/

/-- R7, R161: the operation ends at once and the response carries the status and `info`, and no result (R153).
Nothing is saved, no mode changes, and what has been done before stands (R154). -/
def State.raise (s : State) (status : Status) (info : BitVec 3) : State :=
  s.withResponse (some { status := status, info := info, results := Results.empty })

/-- R7: the operation ran to its `return`; status OK, `info` 0 (R151). There is nothing to restore (R163). -/
def State.respond (s : State) (results : Results) : State :=
  s.withResponse (some { status := .ok, info := 0, results := results })

/-- R176: the read never completes, so the operation gives no response and the block takes no further request. -/
def State.hang (s : State) : State :=
  { s.withResponse none with hung := true }

/-- R111, R156: the gate of RDTEMP, THERM, SETCFG and CMD. Before INIT there is neither an address nor a cache. -/
def State.whenInit (s : State) (k : Handle → State) : State :=
  match s.handle with
  | none => s.raise .notInit 0
  | some h => k h

/-! ## Bus events -/

/-- R33: the outcome of the k-th write event from now, scripted or free (log 3). -/
def State.writeOutcome (s : State) (k : Nat) : Config.WriteOutcome :=
  (s.writeAnswers[s.writeDraws + k]?).getD (Config.freeWriteOutcome (s.writeDraws + k))

/-- R33: the outcome of the k-th read event from now, scripted or free (log 3). -/
def State.readOutcome (s : State) (k : Nat) : Config.ReadOutcome :=
  (s.readAnswers[s.readDraws + k]?).getD (Config.freeReadOutcome (s.readDraws + k))

/-- R32: the event `EvW(addr, bytes)`: its outcome is drawn and it joins the history. -/
def State.busWrite (s : State) (addr : BusAddr) (bytes : List Byte) : Config.WriteOutcome × State :=
  (s.writeOutcome 0, (s.record (.evW addr bytes (s.writeOutcome 0))).drewWrite)

/-- R32: the event `EvR(addr, 2)`: its outcome is drawn and it joins the history. -/
def State.busRead (s : State) (addr : BusAddr) : Config.ReadOutcome × State :=
  (s.readOutcome 0, (s.record (.evR addr 2 (s.readOutcome 0))).drewRead)

/-- R34: `MemWrite(ptr, n, v)`, the pointer byte and then the data bytes, the most significant first (R35). -/
def State.memWrite (s : State) (h : Handle) (p : Pointer) (data : List Byte) : Config.WriteOutcome × State :=
  s.busWrite h.busAddr (pointerByte p :: data)

/-- R37: `CmdWrite(code)`, one byte with no register pointer. -/
def State.cmdWrite (s : State) (h : Handle) (code : Byte) : Config.WriteOutcome × State :=
  s.busWrite h.busAddr [code]

/-- R38: the first phase of `MemRead(ptr, 2)`, the pointer write. -/
def State.selectRegister (s : State) (h : Handle) (p : Pointer) : Config.WriteOutcome × State :=
  s.busWrite h.busAddr [pointerByte p]

/-- R123, R159: go on after a write event that returned `ok`; after a `fail` stop at once and report the number
`info` of the event (R133). No retry. -/
def orTransport (e : Config.WriteOutcome × State) (info : BitVec 3) (k : State → State) : State :=
  match e.1 with
  | .ok => k e.2
  | .fail => e.2.raise .transport info

/-- R38, R118, R176: the second phase of `MemRead(ptr, 2)`: go on with the two bytes, the first received first;
report a failure as event 1; or hang. -/
def orReadFailure (e : Config.ReadOutcome × State) (k : Byte → Byte → State → State) : State :=
  match e.1 with
  | .ok b1 b2 => k b1 b2 e.2
  | .fail => e.2.raise .transport 1
  | .never => e.2.hang

end Sys2Proof.Machine
end

