-- ==== Sys2Proof/Machine/Codec.lean ====
section
/-! DEFINITION. The temperature codec (41_temperature_codec.md): DECODE, ENCODE and RESMUX, first as functions of
their operands for every `CW` and `FW` (R4), then as the meanings of the three operations, at the
parameters they are given. -/

namespace Sys2Proof.Machine

/-! ## DECODE -/

/-- R80: `m = 16*I + F`, the magnitude in sixteenths of a degree, with `I = high[6:0]` and `F = low[7:4]`. -/
def decodeMagnitude (high low : Byte) : Nat :=
  16 * (high.extractLsb' 0 7).toNat + (low.extractLsb' 4 4).toNat

/-- R80, R81: the signed count of sixteenths; the sign applies to the whole magnitude. -/
def decodeSixteenths (high low : Byte) : Int :=
  if high.getLsbD 7 then -(decodeMagnitude high low : Int) else (decodeMagnitude high low : Int)

/-- R80: `trunc_CW(s * 2^(FW-4))`. -/
def decodeValue (cw fw : Nat) (high low : Byte) : BitVec cw :=
  BitVec.ofInt cw (decodeSixteenths high low * 2 ^ (fw - 4))

/-! ## ENCODE -/

/-- R84: one line of the greedy decomposition: where the remainder reaches the weight, set the bit and subtract. -/
def takeWeight (weight : Nat) (bit : Byte) (x : Nat × Byte) : Nat × Byte :=
  if weight ≤ x.1 then (x.1 - weight, x.2 ||| bit) else x

/-- R84: the low byte of the remainder `r`, by the weights 0.5, 0.25, 0.125, 0.0625 in descending order; what is
left below the last weight is discarded. -/
def greedyLow (fw r : Nat) : Byte :=
  (takeWeight (2 ^ (fw - 4)) 0x10 (takeWeight (2 ^ (fw - 3)) 0x20 (takeWeight (2 ^ (fw - 2)) 0x40
    (takeWeight (2 ^ (fw - 1)) 0x80 (r, 0x00))))).2

/-- R84: the sign bit ORed with the floored absolute integer part. -/
def encodeHigh (fw : Nat) (n : Int) : Byte :=
  (if n < 0 then 0x80#8 else 0x00#8) ||| BitVec.ofNat 8 (n.natAbs >>> fw)

/-- R84: the fraction of the absolute value, `a - (ip << FW)`, decomposed. -/
def encodeLow (fw : Nat) (n : Int) : Byte :=
  greedyLow fw (n.natAbs - (n.natAbs >>> fw) <<< fw)

/-! ## RESMUX -/

/-- R88: `nfrac = res + 1`. -/
def resmuxNfrac (res : Resolution) : BitVec 3 :=
  res.code.zeroExtend 3 + 1

/-- R88: `trunc_8(0xF00 >> nfrac) & 0xF0`. -/
def resmuxMask (res : Resolution) : Byte :=
  BitVec.ofNat 8 (0xF00 >>> (resmuxNfrac res).toNat) &&& 0xF0#8

/-- R88: `low & mask`. -/
def resmuxLow (res : Resolution) (low : Byte) : Byte :=
  low &&& resmuxMask res

/-! ## The meanings -/

/-- DECODE (R80): always OK, "any 2-byte input is legal". -/
def execDecode (high low : Byte) (s : State) : Host.Outcome State Fault Refusal :=
  .next (s.respond { cOut := some (decodeValue s.params.cw s.params.fw high low).toNat })

/-- ENCODE (R84): refused with VALIDATION out of range (R85), else the two bytes. -/
def execEncode (c : Celsius) (s : State) : Host.Outcome State Fault Refusal :=
  .next (if inRange s.params.fw (sintOf s.params.cw c) then
      s.respond { highOut := some (encodeHigh s.params.fw (sintOf s.params.cw c))
                  lowOut := some (encodeLow s.params.fw (sintOf s.params.cw c)) }
    else s.raise .validation encodeInfo)

/-- RESMUX (R88): always OK; it does not read the cache. -/
def execResmux (res : Resolution) (low : Byte) (s : State) : Host.Outcome State Fault Refusal :=
  .next (s.respond { nfrac := some (resmuxNfrac res)
                     mask := some (resmuxMask res)
                     lowMasked := some (resmuxLow res low) })

end Sys2Proof.Machine
end

