-- ==== Sys2Proof/Machine/Packer.lean ====
section
/-! DEFINITION. The configuration byte packer and unpacker (42_config_packer.md) and the helpers built on the
byte's layout (R15): CFGPACK, CFGUNPACK, WITH_FT, INIT_BYTE, and the partial update of R20. -/

namespace Sys2Proof.Machine

/-- The six fields of the configuration byte (R15). -/
structure ConfigFields where
  nvb : Bit
  res : Resolution
  ft  : FaultTolerance
  pol : Bit
  tm  : Bit
  sd  : Bit
  deriving DecidableEq, Repr

/-- R100: `(nvb << 7) | (res << 5) | (ft << 3) | (pol << 2) | (tm << 1) | sd`. -/
def packConfig (f : ConfigFields) : Byte :=
  f.nvb.zeroExtend 8 <<< 7 ||| f.res.code.zeroExtend 8 <<< 5 ||| f.ft.code.zeroExtend 8 <<< 3
    ||| f.pol.zeroExtend 8 <<< 2 ||| f.tm.zeroExtend 8 <<< 1 ||| f.sd.zeroExtend 8

/-- R101: the fields of a byte. -/
def unpackConfig (b : Byte) : ConfigFields :=
  { nvb := b.extractLsb' 7 1
    res := Resolution.ofCode (b.extractLsb' 5 2)
    ft := FaultTolerance.ofCode (b.extractLsb' 3 2)
    pol := b.extractLsb' 2 1
    tm := b.extractLsb' 1 1
    sd := b.extractLsb' 0 1 }

/-- R103: `WITH_FT(b, ft) = (b & 0xE7) | (ft << 3)`. -/
def withFt (b : Byte) (ft : FaultTolerance) : Byte :=
  (b &&& 0xE7#8) ||| ft.code.zeroExtend 8 <<< 3

/-- R104: `INIT_BYTE(res) = res << 5`. -/
def initByte (res : Resolution) : Byte :=
  res.code.zeroExtend 8 <<< 5

/-- R20: the partial update of the field with mask `m` at bit position `k`, on the cached byte `b`. -/
def updateField (b m : Byte) (k : Nat) (v : BitVec 2) : Byte :=
  (b &&& ~~~m &&& 0x7F#8) ||| (v.zeroExtend 8 <<< k &&& m)

/-! ## The meanings -/

/-- CFGPACK (R100): always OK. -/
def execCfgpack (nvb : Bit) (res : Resolution) (ft : FaultTolerance) (pol tm sd : Bit) (s : State) :
    Host.Outcome State Fault Refusal :=
  .next (s.respond
    { byteOut := some (packConfig { nvb := nvb, res := res, ft := ft, pol := pol, tm := tm, sd := sd }) })

/-- CFGUNPACK (R101): always OK; it reads neither the cache nor the sensor. -/
def execCfgunpack (byte : Byte) (s : State) : Host.Outcome State Fault Refusal :=
  .next (s.respond
    { nvbOut := some (unpackConfig byte).nvb
      resOut := some (unpackConfig byte).res
      ftOut := some (unpackConfig byte).ft
      polOut := some (unpackConfig byte).pol
      tmOut := some (unpackConfig byte).tm
      sdOut := some (unpackConfig byte).sd })

end Sys2Proof.Machine
end

