-- ==== Sys2Proof/Machine/Controller.lean ====
section
/-! DEFINITION. The controller operations (43_device_controller.md): BUSADDR, INIT, RDTEMP, THERM, SETCFG, CMD.
Each is what it does to the state, written in the order of its rule's pseudocode, and its meaning. -/

namespace Sys2Proof.Machine

/-- R110: `0x48 | (a2 << 2) | (a1 << 1) | a0`. -/
def busAddrOf (a2 a1 a0 : Bit) : BusAddr :=
  addrPrefix ||| a2.zeroExtend 7 <<< 2 ||| a1.zeroExtend 7 <<< 1 ||| a0.zeroExtend 7

/-- The handle INIT creates (R112): the address, and `INIT_BYTE(res)` in the cache. -/
def initHandle (a2 a1 a0 : Bit) (res : Resolution) : Handle :=
  Handle.writeCache { busAddr := busAddrOf a2 a1 a0, cfgCache := 0 } (initByte res)

/-- INIT on the state (R112): the three state writes stand whatever the bus event's outcome (R114). -/
def initRun (h : Handle) (s : State) : State :=
  orTransport ((s.withHandle h).memWrite h .config [h.cfgCache]) 0 fun t =>
    t.respond { addrOut := some h.busAddr }

/-- RDTEMP past the gate (R116): the pointer check before any bus event (R117), then the two-phase read. -/
def rdtempRun (p : Pointer) (h : Handle) (s : State) : State :=
  match p with
  | .config => s.raise .badPointer 0
  | .temp | .hyst | .trip =>
    orTransport (s.selectRegister h p) 0 fun t =>
      orReadFailure (t.busRead h.busAddr) fun b1 b2 u =>
        u.respond { cOut := some (decodeValue s.params.cw s.params.fw b1 b2).toNat }

/-- The two bytes of an accepted setpoint, high byte first (R35, R84). -/
def setpointBytes (p : Config.Params) (c : Celsius) : List Byte :=
  [encodeHigh p.fw (sintOf p.cw c), encodeLow p.fw (sintOf p.cw c)]

/-- THERM's gate on the un-quantised operands (R55, R120, R121): which tests fail, 0 where none does. -/
def thermGate (p : Config.Params) (trip hyst : Celsius) : BitVec 3 :=
  thermInfo p.fw (sintOf p.cw trip) (sintOf p.cw hyst)

/-- The last part of THERM and the whole of SETCFG past the gate: the cache takes `cached`, and then the byte
`sent` goes to the CONFIG register; a failed write leaves the new cache (R123, R128, R174). -/
def writeConfig (h : Handle) (cached sent : Byte) (info : BitVec 3) (s : State) : State :=
  orTransport ((s.withHandle (h.writeCache cached)).memWrite h .config [sent]) info fun t =>
    t.respond Results.empty

/-- THERM past its validation (R120): TRIP, then HYST, then the cache and CONFIG, stopping at the first failure
(R122, R123). -/
def thermWrites (trip hyst : Celsius) (ft : FaultTolerance) (h : Handle) (s : State) : State :=
  orTransport (s.memWrite h .trip (setpointBytes s.params trip)) 0 fun t =>
    orTransport (t.memWrite h .hyst (setpointBytes s.params hyst)) 1 fun u =>
      writeConfig h (withFt h.cfgCache ft) (h.writeCache (withFt h.cfgCache ft)).cfgCache 2 u

/-- THERM past the gate (R120, R121): refused with every failed test named, before anything is touched. -/
def thermRun (trip hyst : Celsius) (ft : FaultTolerance) (h : Handle) (s : State) : State :=
  if thermGate s.params trip hyst = 0 then thermWrites trip hyst ft h s
  else s.raise .validation (thermGate s.params trip hyst)

/-- CMD past the gate (R130): any code is transmitted. -/
def cmdRun (code : Byte) (h : Handle) (s : State) : State :=
  orTransport (s.cmdWrite h code) 0 fun t => t.respond Results.empty

/-! ## The meanings -/

/-- BUSADDR (R110): always OK; it does not change `BUS_ADDR`. -/
def execBusaddr (a2 a1 a0 : Bit) (s : State) : Host.Outcome State Fault Refusal :=
  .next (s.respond { addrOut := some (busAddrOf a2 a1 a0) })

/-- INIT (R112): allowed at any time (R113). -/
def execInit (a2 a1 a0 : Bit) (res : Resolution) (s : State) : Host.Outcome State Fault Refusal :=
  .next (initRun (initHandle a2 a1 a0 res) s)

/-- RDTEMP (R116). -/
def execRdtemp (ptr : Pointer) (s : State) : Host.Outcome State Fault Refusal :=
  .next (s.whenInit fun h => rdtempRun ptr h s)

/-- THERM (R120). -/
def execTherm (trip hyst : Celsius) (ft : FaultTolerance) (s : State) : Host.Outcome State Fault Refusal :=
  .next (s.whenInit fun h => thermRun trip hyst ft h s)

/-- SETCFG (R128): the byte is transmitted as given, bit 7 included; the cache takes it without bit 7 (R129). -/
def execSetcfg (byte : Byte) (s : State) : Host.Outcome State Fault Refusal :=
  .next (s.whenInit fun h => writeConfig h byte byte 0 s)

/-- CMD (R130): the state is left alone whatever the code (R131). -/
def execCmd (byte : Byte) (s : State) : Host.Outcome State Fault Refusal :=
  .next (s.whenInit fun h => cmdRun byte h s)

end Sys2Proof.Machine
end

