-- ==== Sys2Proof/Machine/Reserved.lean ====
section
/-! DEFINITION. The five reserved operation codes (R53): each ends with status ILLEGAL_OP, changes no state and
emits no bus event (R154, R155). -/

namespace Sys2Proof.Machine

/-- R53, R155: what every reserved code does. -/
def illegalOp (s : State) : State :=
  s.raise .illegalOp 0

/-- 0x0 (R53): "kept illegal so that an all-zero request does nothing". -/
def execReserved0 (s : State) : Host.Outcome State Fault Refusal :=
  .next (illegalOp s)

/-- 0xC (R53). -/
def execReservedC (s : State) : Host.Outcome State Fault Refusal :=
  .next (illegalOp s)

/-- 0xD (R53). -/
def execReservedD (s : State) : Host.Outcome State Fault Refusal :=
  .next (illegalOp s)

/-- 0xE (R53). -/
def execReservedE (s : State) : Host.Outcome State Fault Refusal :=
  .next (illegalOp s)

/-- 0xF (R53). -/
def execReservedF (s : State) : Host.Outcome State Fault Refusal :=
  .next (illegalOp s)

end Sys2Proof.Machine
end

