-- ==== Sys2Proof/Machine/Dispatch.lean ====
section
/-! DEFINITION. One arm per row of the operation table (R52, R53), each a direct call of that row's meaning. -/

namespace Sys2Proof.Machine

/-- What an operation does. -/
def exec (i : Instr) (s : State) : Host.Outcome State Fault Refusal :=
  match i with
  | .decode high low => Sys2Proof.Machine.execDecode high low s
  | .encode c => Sys2Proof.Machine.execEncode c s
  | .resmux res low => Sys2Proof.Machine.execResmux res low s
  | .cfgpack nvb res ft pol tm sd => Sys2Proof.Machine.execCfgpack nvb res ft pol tm sd s
  | .cfgunpack byte => Sys2Proof.Machine.execCfgunpack byte s
  | .busaddr a2 a1 a0 => Sys2Proof.Machine.execBusaddr a2 a1 a0 s
  | .init a2 a1 a0 res => Sys2Proof.Machine.execInit a2 a1 a0 res s
  | .rdtemp ptr => Sys2Proof.Machine.execRdtemp ptr s
  | .therm trip hyst ft => Sys2Proof.Machine.execTherm trip hyst ft s
  | .setcfg byte => Sys2Proof.Machine.execSetcfg byte s
  | .cmd byte => Sys2Proof.Machine.execCmd byte s
  | .reserved0 => Sys2Proof.Machine.execReserved0 s
  | .reservedC => Sys2Proof.Machine.execReservedC s
  | .reservedD => Sys2Proof.Machine.execReservedD s
  | .reservedE => Sys2Proof.Machine.execReservedE s
  | .reservedF => Sys2Proof.Machine.execReservedF s

end Sys2Proof.Machine
end

