-- ==== Sys2Proof/Machine/Intake.lean ====
section
/-! DEFINITION. What the block does with what the host presents next (R8, R44, R50): run one request to its
response, take the reset event (R170), wait where nothing is presented, or have no step while a read never
completes (R176). Logs 5, 7, 10. -/

namespace Sys2Proof.Machine

/-- The host has presented its next input. -/
def State.withInputs (s : State) (rest : List HostInput) : State :=
  { s with inputs := rest }

/-- R170: the reset event: `INIT_DONE <- 0`, no value in `CFG_CACHE` and `BUS_ADDR`, an empty history, no bus event.
The parameters, and what belongs to the host and to the environment, stay (logs 1, 10). -/
def State.applyReset (s : State) : State :=
  { State.reset with
    params := s.params
    inputs := s.inputs
    writeAnswers := s.writeAnswers
    readAnswers := s.readAnswers
    writeDraws := s.writeDraws
    readDraws := s.readDraws }

/-- One step: the next input is taken. A block that waits for a read that never completes takes nothing but a
reset; with nothing presented the block waits unchanged (R160: only requests change its state). -/
def takeInput (s : State) : Host.Outcome State Fault Refusal :=
  match s.inputs with
  | .reset :: rest => .next (s.withInputs rest).applyReset
  | .request r :: rest =>
    if s.hung then .fault .readNeverCompletes else exec (decodeInstr r) (s.withInputs rest)
  | [] => if s.hung then .fault .readNeverCompletes else .next s

/-- The request `r` is presented next, and the block is ready to take it (log 7). -/
def State.present (s : State) (r : Request) : State :=
  { s with inputs := .request r :: s.inputs, hung := false }

end Sys2Proof.Machine
end

