-- ==== Sys2Proof/Machine/Step.lean ====
section
/-! DEFINITION. One step of the machine, and how a request given as bits is placed where the step takes it. -/

namespace Sys2Proof.Machine

/-- One step (R44, R50): one request, whole, with the bus events its rule lists. -/
def step (s : State) : Host.Outcome State Fault Refusal :=
  takeInput s

/-- `s` with the request of image `w` (its bits at and above `nbits` zero) presented next (logs 6 and 7). -/
def State.withFetchWord (s : State) (nbits w : Nat) : State :=
  s.present (Request.ofImage s.params.cw (w % 2 ^ nbits))

end Sys2Proof.Machine
end

