-- ==== Sys2Proof/Machine/Wrappers.lean ====
section
/-! DEFINITION. The unit and default wrappers (44_unit_wrappers.md, R68): arithmetic the host does on exact
rationals, and the one operation each wrapper presents to the block. None of them is an operation of the block. -/

namespace Sys2Proof.Machine

/-- R140: `F = (C×9/5)+32`, exact. -/
def c2f (c : Rat) : Rat :=
  c * 9 / 5 + 32

/-- R141: `C = (F−32)×5/9`, exact. -/
def f2c (f : Rat) : Rat :=
  (f - 32) * 5 / 9

/-- R6: `toQ(x) = sign(x) * floor(|x| * 2^FW)`, truncation toward zero. -/
def toQ (fw : Nat) (x : Rat) : Int :=
  if x < 0 then -(Rat.floor (-x * 2 ^ fw)) else Rat.floor (x * 2 ^ fw)

/-- R6: `val(p) = sint_CW(p) / 2^FW`. -/
def valueOf (p : Config.Params) (c : Celsius) : Rat :=
  (sintOf p.cw c : Rat) / 2 ^ p.fw

/-- The pattern of the integer `n` on a Celsius port of `cw` bits; none where the port cannot carry it (log 13). -/
def portOf (cw : Nat) (n : Int) : Option Celsius :=
  if -(2 ^ (cw - 1)) ≤ n ∧ n < 2 ^ (cw - 1) then some (BitVec.ofInt cw n).toNat else none

/-- R143, R144: `toQ(F2C(f))` on a Celsius port. -/
def portOfFahrenheit (p : Config.Params) (f : Rat) : Option Celsius :=
  portOf p.cw (toQ p.fw (f2c f))

/-- R142: `5.0` degrees on a Celsius port, the default distance of the hysteresis. -/
def defaultHysteresis (fw : Nat) : Int :=
  5 * 2 ^ fw

/-- R142: `THERM.D trip = THERM trip, trip - 5.0, FT_1`, the subtraction exact on the integers. -/
def thermD (p : Config.Params) (trip : Celsius) : Option Instr :=
  (portOf p.cw (sintOf p.cw trip - defaultHysteresis p.fw)).map fun hyst => .therm trip hyst .ft1

/-- R142: `THERM.D trip, hyst = THERM trip, hyst, FT_1`. -/
def thermDHyst (trip hyst : Celsius) : Instr :=
  .therm trip hyst .ft1

/-- R143: `THERM.F trip_f, hyst_f, ft = THERM toQ(F2C(trip_f)), toQ(F2C(hyst_f)), ft`. -/
def thermF (p : Config.Params) (tripF hystF : Rat) (ft : FaultTolerance) : Option Instr :=
  match portOfFahrenheit p tripF, portOfFahrenheit p hystF with
  | some trip, some hyst => some (.therm trip hyst ft)
  | _, _ => none

/-- R144: `THERM.FD trip_f = THERM.D toQ(F2C(trip_f))`: convert first, then subtract 5.0 Celsius degrees. -/
def thermFD (p : Config.Params) (tripF : Rat) : Option Instr :=
  (portOfFahrenheit p tripF).bind (thermD p)

/-- R145: the request of `RDTEMP.F ptr`. -/
def rdtempF (ptr : Pointer) : Instr :=
  .rdtemp ptr

/-- R145: `C2F(val(RDTEMP ptr))`, only when the status is OK. -/
def fahrenheitOf (p : Config.Params) (r : Response) : Option Rat :=
  if r.status = .ok then r.results.cOut.map fun c => c2f (valueOf p c) else none

end Sys2Proof.Machine
end

