-- ==== Sys2Proof/Safety.lean ====
section
/-! DEFINITION. What a legal state, event and response are, in the words the claims use: the ranges the spec gives
the state (R12, R13), the shapes of the bus events (R32, R36, R37, R38, R40), and the codes of a response (R150,
R151, R153). -/

namespace Sys2Proof.Machine

/-! ## The block's own state -/

/-- R13: "always in the range 0x48 to 0x4F once written". -/
abbrev AddrLegal (a : BusAddr) : Prop :=
  0x48 ≤ a.toNat ∧ a.toNat ≤ 0x4F

/-- R12: "always satisfies `CFG_CACHE & 0x80 == 0`". -/
abbrev CacheLegal (b : Byte) : Prop :=
  b &&& 0x80 = 0

/-- R12, R13: a handle as INIT creates it and every operation keeps it. -/
abbrev Handle.Legal (h : Handle) : Prop :=
  AddrLegal h.busAddr ∧ CacheLegal h.cfgCache

/-! ## Bus events -/

/-- The address of an event. -/
def Event.addr : Event → BusAddr
  | .evW a _ _ => a
  | .evR a _ _ => a

/-- Whether the event's outcome is `ok`. -/
def Event.succeeded : Event → Bool
  | .evW _ _ o => decide (o = .ok)
  | .evR _ _ (.ok _ _) => true
  | .evR _ _ _ => false

/-- Whether the event is a read that never completes (R176). -/
def Event.blocks : Event → Bool
  | .evR _ _ .never => true
  | _ => false

/-- The byte lists of R34, R36, R37: one byte alone (a pointer or a command code), CONFIG with one data byte, HYST
or TRIP with two. TEMP is never written (R40). -/
def bytesLegal : List Byte → Bool
  | [_] => true
  | [p, _] => decide (p = 0x01)
  | [p, _, _] => decide (p = 0x02) || decide (p = 0x03)
  | _ => false

/-- R32, R42: the address is one of the family's eight, a write has a legal byte list, a read asks for two bytes. -/
def Event.legal : Event → Bool
  | .evW a bytes _ => decide (AddrLegal a) && bytesLegal bytes
  | .evR a n _ => decide (AddrLegal a) && decide (n = 2)

/-- R38, R44, R117: a read at `a` may follow `prev` exactly when that was a successful write, at `a`, of the pointer
of TEMP, HYST or TRIP alone. -/
def readMayFollow (a : BusAddr) : Option Event → Bool
  | some (.evW b [p] .ok) => decide (b = a) && (decide (p = 0x00) || decide (p = 0x02) || decide (p = 0x03))
  | _ => false

/-- One event after another: a read follows its pointer write, and nothing follows a read that never completes. -/
def mayFollow (prev : Option Event) (e : Event) : Bool :=
  !(prev.any Event.blocks) &&
    match e with
    | .evR a _ _ => readMayFollow a prev
    | .evW _ _ _ => true

/-- Every event of the list may follow the one before it, the first one `prev`. -/
def ordered : Option Event → List Event → Bool
  | _, [] => true
  | prev, e :: rest => mayFollow prev e && ordered (some e) rest

/-- The data byte of a CONFIG write, completed or failed (R36); none of any other event. -/
def Event.configByte : Event → Option Byte
  | .evW _ [p, b] _ => if p = 0x01 then some b else none
  | _ => none

/-- The data byte of the newest CONFIG write of a history. -/
def lastConfigByte : List Event → Option Byte
  | [] => none
  | e :: rest => (lastConfigByte rest).or e.configByte

/-! ## The two invariants -/

/-- What the state, the history and the waiting read satisfy in every run: a legal handle; legal events in a legal
order; events exactly since INIT; every event newest at `BUS_ADDR`; waiting exactly after a read that blocks. -/
abbrev State.Sound (s : State) : Prop :=
  (∀ h, s.handle = some h → h.Legal) ∧
  s.history.all Event.legal = true ∧
  ordered none s.history = true ∧
  (s.handle.isSome = true ↔ s.history ≠ []) ∧
  (∀ h e, s.handle = some h → s.history.getLast? = some e → e.addr = h.busAddr) ∧
  s.hung = s.history.getLast?.any Event.blocks

/-- R12 (§3 of the source): "the controller caches the last-written value (excluding the read-only NVB bit)". -/
abbrev State.CacheIsLastWrite (s : State) : Prop :=
  ∀ h, s.handle = some h → (lastConfigByte s.history).map (fun b => b &&& 0x7F) = some h.cfgCache

/-! ## Responses -/

/-- R150, R151, R153: which `info` goes with a status, and no result with a status other than OK. -/
def Response.legal (r : Response) : Bool :=
  match r.status with
  | .ok => decide (r.info = 0)
  | .illegalOp => decide (r.info = 0) && decide (r.results = Results.empty)
  | .notInit => decide (r.info = 0) && decide (r.results = Results.empty)
  | .badPointer => decide (r.info = 0) && decide (r.results = Results.empty)
  | .validation => decide (r.info ≠ 0) && decide (r.results = Results.empty)
  | .transport => decide (r.info.toNat ≤ 2) && decide (r.results = Results.empty)

/-- The statuses that are raised before any state write and any bus event (R154). -/
def Status.refuses : Status → Bool
  | .illegalOp => true
  | .notInit => true
  | .badPointer => true
  | .validation => true
  | .ok => false
  | .transport => false

/-! ## Kinds of operation -/

/-- The operations that read and write no state and emit no bus event (R21, R80 to R110). -/
def isPure : Instr → Bool
  | .decode .. => true
  | .encode .. => true
  | .resmux .. => true
  | .cfgpack .. => true
  | .cfgunpack .. => true
  | .busaddr .. => true
  | .init .. => false
  | .rdtemp .. => false
  | .therm .. => false
  | .setcfg .. => false
  | .cmd .. => false
  | .reserved0 => false
  | .reservedC => false
  | .reservedD => false
  | .reservedE => false
  | .reservedF => false

/-- The reserved codes (R53). -/
def isReserved : Instr → Bool
  | .decode .. => false
  | .encode .. => false
  | .resmux .. => false
  | .cfgpack .. => false
  | .cfgunpack .. => false
  | .busaddr .. => false
  | .init .. => false
  | .rdtemp .. => false
  | .therm .. => false
  | .setcfg .. => false
  | .cmd .. => false
  | .reserved0 => true
  | .reservedC => true
  | .reservedD => true
  | .reservedE => true
  | .reservedF => true

/-- The operations refused before INIT (R111, R156). -/
def isGated : Instr → Bool
  | .decode .. => false
  | .encode .. => false
  | .resmux .. => false
  | .cfgpack .. => false
  | .cfgunpack .. => false
  | .busaddr .. => false
  | .init .. => false
  | .rdtemp .. => true
  | .therm .. => true
  | .setcfg .. => true
  | .cmd .. => true
  | .reserved0 => false
  | .reservedC => false
  | .reservedD => false
  | .reservedE => false
  | .reservedF => false

end Sys2Proof.Machine
end

