-- ==== Sys2Proof/Certificates/Slice0/Obligations.lean ====
section
/-! DEFINITION. The statements for the provers, from the spec's numbered rules. Where a statement writes a next
state out, every field it does not name is unchanged: the equation is the frame too. The block has no memory of
its own (R30): the event history stands in its place, and each statement says which events are added, and at
which address. The parameters `CW` and `FW` of R4 are those the state gives the step, `s.params` (log 1). -/

open Sys2Proof Sys2Proof.Machine

/-! ## Encoding -/

/-- R52, R54, R56, R57, R62, R67, at the bit image of log 6 and at every `CW`: no bit of any operand is dropped. -/
def Obligations.ImageDecodesToItsInstruction : Prop :=
  ∀ (cw : Nat) (i : Instr), i.wellFormed cw = true → decodeImage cw (encodeImage cw i) = .ok i

/-- The bit image of log 6 and the tuple of ports (R50, R54) determine each other, at every `CW`. -/
def Obligations.ImagesAndRequestsCorrespond : Prop :=
  (∀ (cw : Nat) (r : Request), r.fits cw = true →
    r.image cw < 2 ^ imageWidth cw ∧ Request.ofImage cw (r.image cw) = r) ∧
  (∀ cw w : Nat, w < 2 ^ imageWidth cw →
    (Request.ofImage cw w).fits cw = true ∧ (Request.ofImage cw w).image cw = w)

/-- R50, R52: a request that drives only the ports its operation names is the request of its instruction. -/
def Obligations.CanonicalRequestIsEncodedInstruction : Prop :=
  ∀ r : Request, r.canonical = true → encodeInstr (decodeInstr r) = r

/-- R50: "an operation ignores every operand port it does not name".
That requests wait in a queue of the state is the model's choice (log 7). -/
def Obligations.UnnamedPortsAreIgnored : Prop :=
  ∀ (s : State) (r : Request) (rest : List HostInput), s.inputs = .request r :: rest →
    step s = step { s with inputs := .request (encodeInstr (decodeInstr r)) :: rest }

/-- R52, R67: some requests of the spec's own examples are the operations they stand for, at the default widths. The
bit positions in the images are the model's choice (log 6). -/
def Obligations.WrittenRequestsDecode : Prop :=
  decodeImage 32 (0x1 + 0x20 * 2 ^ 4 + 0x80 * 2 ^ 12) = .ok (.decode 0x20 0x80) ∧
  decodeImage 32 (0x4 + 3 * 2 ^ 116 + 3 * 2 ^ 118) = .ok (.cfgpack 0 .res12 .ft6 0 0 0) ∧
  decodeImage 32 (0x7 + 3 * 2 ^ 116) = .ok (.init 0 0 0 .res12) ∧
  decodeImage 32 (0x9 + 0x02073333 * 2 ^ 52 + 0x01E23D70 * 2 ^ 84 + 3 * 2 ^ 118) =
    .ok (.therm 0x02073333 0x01E23D70 .ft6) ∧
  decodeImage 32 0xE = .ok .reservedE

/-- R53: the five reserved codes answer ILLEGAL_OP, change no state and emit no bus event; no other code is reserved.
The queue of requests is the model's choice (log 7). -/
def Obligations.ReservedCodesAnswerIllegalOp : Prop :=
  (∀ (s : State) (r : Request) (rest : List HostInput), s.hung = false → s.inputs = .request r :: rest →
    (r.op = 0x0 ∨ r.op = 0xC ∨ r.op = 0xD ∨ r.op = 0xE ∨ r.op = 0xF) →
    step s = .next { s with
      inputs := rest, response := some { status := .illegalOp, info := 0, results := Results.empty } }) ∧
  (∀ r : Request, isReserved (decodeInstr r) = true →
    (r.op = 0x0 ∨ r.op = 0xC ∨ r.op = 0xD ∨ r.op = 0xE ∨ r.op = 0xF))

/-! ## The step -/

/-- R44, R50: where a request is presented and no read blocks, the step is the operation the request decodes to,
run on the state without that request.
The queue is the model's choice (log 7). -/
def Obligations.StepRunsThePresentedRequest : Prop :=
  ∀ (s : State) (r : Request) (rest : List HostInput), s.hung = false → s.inputs = .request r :: rest →
    step s = exec (decodeInstr r) { s with inputs := rest }

/-- Log 7: with nothing presented and no read blocking, the block waits unchanged. -/
def Obligations.BlockWaitsForARequest : Prop :=
  ∀ s : State, s.hung = false → s.inputs = [] → step s = .next s

/-- R170: the reset event, from every state: `INIT_DONE` is 0, `CFG_CACHE` and `BUS_ADDR` hold no value, the history
is empty, and nothing is asked of the bus.
That the queue, the parameters and the environment's counts stay is the model's choice (logs 1, 7, 10). -/
def Obligations.ResetEventClearsTheBlock : Prop :=
  ∀ (s : State) (rest : List HostInput), s.inputs = .reset :: rest →
    ∃ t, step s = .next t ∧ t.initDone = false ∧ t.handle = none ∧ t.history = [] ∧ t.params = s.params ∧
      t.writeDraws = s.writeDraws ∧ t.readDraws = s.readDraws ∧ t.inputs = rest

/-- R171: the complete state after reset, and R4: its parameters are the legal defaults (log 1).
That the two values are absent together, in the handle, is the model's inference (log 2). -/
def Obligations.ResetStateHoldsNoHandle : Prop :=
  State.reset.initDone = false ∧ State.reset.handle = none ∧ State.reset.history = [] ∧
  State.reset.params = { cw := 32, fw := 20 } ∧ State.reset.params.Legal

/-- R176: a step has no next state exactly while a read blocks and no reset is presented; no request is ever
refused by the model.
The form of the stop is the model's choice (log 5). -/
def Obligations.StepStopsExactlyWhileAReadBlocks : Prop :=
  (∀ s : State, (∃ f, step s = .fault f) ↔ s.hung = true ∧ ∀ rest, s.inputs ≠ .reset :: rest) ∧
  (∀ (s : State) (r : Refusal), step s ≠ .refused r)

/-! ## The temperature codec -/

/-- R80, at every legal `CW` and `FW`: DECODE answers OK with the sign applied to the integer and the fraction together;
nothing else changes. -/
def Obligations.DecodeAnswersSignedSixteenths : Prop :=
  ∀ (high low : Byte) (s : State), s.params.Legal → ∃ c : BitVec s.params.cw,
    exec (.decode high low) s =
      .next { s with response := some { status := .ok, info := 0, results := { cOut := some c.toNat } } } ∧
    c.toInt = (if high.toNat < 128 then 1 else -1)
      * ((16 * (high.toNat % 128) + low.toNat / 16 : Nat) : Int) * 2 ^ (s.params.fw - 4)

/-- R83, for every legal `CW` and `FW`: no significant bit is dropped. -/
def Obligations.DecodedValueFitsEveryLegalPort : Prop :=
  ∀ (cw fw : Nat) (high low : Byte), paramsWellFormed cw fw = true →
    (decodeSixteenths high low).natAbs ≤ 2047 ∧
    (decodeValue cw fw high low).toInt = decodeSixteenths high low * 2 ^ (fw - 4) ∧
    (decodeValue cw fw high low).toInt.natAbs ≤ 2047 * 2 ^ (fw - 4) ∧
    2047 * 2 ^ (fw - 4) < 2 ^ (fw + 7) ∧
    (decodeValue cw fw high low).toNat % 2 ^ (fw - 4) = 0

/-- R81, for every legal `CW` and `FW`: with the sign bit set the value is the exact negative of the value with it
clear, fraction included. -/
def Obligations.SignAppliesToTheWholeMagnitude : Prop :=
  ∀ (cw fw : Nat) (high low : Byte), paramsWellFormed cw fw = true →
    0 ≤ (decodeValue cw fw (high &&& 0x7F) low).toInt ∧
    (decodeValue cw fw (high ||| 0x80) low).toInt = -(decodeValue cw fw (high &&& 0x7F) low).toInt

/-- R82: the low nibble is ignored, and DECODE is injective on the pairs without it other than `(0x80, 0x00)`. -/
def Obligations.DecodeIsInjectiveUpToTheLowNibble : Prop :=
  ∀ (cw fw : Nat), paramsWellFormed cw fw = true →
    (∀ high low : Byte, decodeValue cw fw high low = decodeValue cw fw high (low &&& 0xF0)) ∧
    (∀ high low high' low' : Byte, low &&& 0x0F = 0 → low' &&& 0x0F = 0 →
      ¬(high = 0x80 ∧ low = 0x00) → ¬(high' = 0x80 ∧ low' = 0x00) →
      decodeValue cw fw high low = decodeValue cw fw high' low' → high = high' ∧ low = low')

/-- R84, at every legal `CW` and `FW`: ENCODE of an operand in range answers OK with the sign and floored magnitude, and
the fraction truncated to sixteenths; nothing else changes. -/
def Obligations.EncodeAnswersSignMagnitudeBytes : Prop :=
  ∀ (c : Celsius) (n : Int) (s : State), s.params.Legal → n = sintOf s.params.cw c →
    -55 * 2 ^ s.params.fw ≤ n → n ≤ 125 * 2 ^ s.params.fw →
    ∃ hi lo : Byte,
      exec (.encode c) s = .next { s with
        response := some { status := .ok, info := 0, results := { highOut := some hi, lowOut := some lo } } } ∧
      hi.toNat = (if n < 0 then 128 else 0) + n.natAbs / 2 ^ s.params.fw ∧
      lo.toNat = 16 * (n.natAbs / 2 ^ (s.params.fw - 4) % 16)

/-- R85, at every `CW` and `FW`: both bounds are inclusive and on the un-quantised operand; outside them VALIDATION with
`info = 0b001`, no output bytes, and nothing else changes. -/
def Obligations.EncodeChecksTheRange : Prop :=
  ∀ (c : Celsius) (n : Int) (s : State), n = sintOf s.params.cw c → ∃ r : Response,
    exec (.encode c) s = .next { s with response := some r } ∧
    (r.status = .ok ↔ -55 * 2 ^ s.params.fw ≤ n ∧ n ≤ 125 * 2 ^ s.params.fw) ∧
    (¬(-55 * 2 ^ s.params.fw ≤ n ∧ n ≤ 125 * 2 ^ s.params.fw) →
      r = { status := .validation, info := 0b001, results := Results.empty })

/-- R87, for every legal `FW`: the greedy loop is the binary expansion of the fraction to four places. -/
def Obligations.GreedyLoopIsBinaryExpansion : Prop :=
  ∀ (fw : Nat) (n : Int), 4 ≤ fw → -55 * 2 ^ fw ≤ n → n ≤ 125 * 2 ^ fw →
    (encodeLow fw n).toNat = ((n.natAbs % 2 ^ fw) >>> (fw - 4)) <<< 4 ∧
    (encodeHigh fw n).toNat = (if n < 0 then 1 else 0) <<< 7 ||| n.natAbs >>> fw ∧
    16 * ((encodeHigh fw n).toNat % 128) + (encodeLow fw n).toNat / 16 = n.natAbs >>> (fw - 4) ∧
    (encodeLow fw n).toNat % 16 = 0

/-- R92 (a), for every legal `CW` and `FW`: ENCODE and then DECODE truncates toward zero to a multiple of one
sixteenth, less than one step away and never farther from zero. -/
def Obligations.EncodeThenDecodeTruncatesTowardZero : Prop :=
  ∀ (cw fw : Nat) (n : Int), paramsWellFormed cw fw = true → -55 * 2 ^ fw ≤ n → n ≤ 125 * 2 ^ fw →
    let d := (decodeValue cw fw (encodeHigh fw n) (encodeLow fw n)).toInt
    d = n.sign * (((n.natAbs >>> (fw - 4)) <<< (fw - 4) : Nat) : Int) ∧
    d.natAbs ≤ n.natAbs ∧ (n - d).natAbs < 2 ^ (fw - 4)

/-- R92 (b) and (c), R93, for every legal `CW` and `FW`: DECODE and then ENCODE gives the pair back without its low
nibble, the negative zero alone becoming zero, and decodes to the same value again. -/
def Obligations.DecodeThenEncodeRestoresTheBytes : Prop :=
  ∀ (cw fw : Nat) (high low : Byte), paramsWellFormed cw fw = true →
    let n := (decodeValue cw fw high low).toInt
    (inRange fw n = true ↔
      if high.toNat < 128 then 16 * high.toNat + low.toNat / 16 ≤ 2000
      else 16 * (high.toNat - 128) + low.toNat / 16 ≤ 880) ∧
    (inRange fw n = true →
      (encodeHigh fw n, encodeLow fw n) =
        (if high = 0x80 ∧ low.toNat < 16 then ((0x00 : Byte), (0x00 : Byte)) else (high, low &&& 0xF0)) ∧
      decodeValue cw fw (encodeHigh fw n) (encodeLow fw n) = decodeValue cw fw high low)

/-- R88: RESMUX answers OK with the table's number of bits, mask and masked byte; nothing else changes. -/
def Obligations.ResmuxAnswersTheTable : Prop :=
  ∀ (res : Resolution) (low : Byte) (s : State), ∃ (n : BitVec 3) (m : Byte),
    exec (.resmux res low) s = .next { s with
      response := some { status := .ok, info := 0,
                         results := { nfrac := some n, mask := some m, lowMasked := some (low &&& m) } } } ∧
    (n, m) = match res with
      | .res9 => (1, 0x80)
      | .res10 => (2, 0xC0)
      | .res11 => (3, 0xE0)
      | .res12 => (4, 0xF0)

/-- R89, for every legal `CW` and `FW`: DECODE of the masked low byte truncates the magnitude toward zero to a
multiple of the resolution's step. -/
def Obligations.MaskedDecodeTruncatesToTheStep : Prop :=
  ∀ (cw fw : Nat) (res : Resolution) (high low : Byte), paramsWellFormed cw fw = true →
    (decodeValue cw fw high (resmuxLow res low)).toInt =
      (if high.toNat < 128 then 1 else -1) *
        (((decodeValue cw fw high low).toInt.natAbs / 2 ^ (fw - (bitsOf res - 8)) * 2 ^ (fw - (bitsOf res - 8)) : Nat)
          : Int)

/-! ## The configuration byte -/

/-- R100: CFGPACK answers OK with the six fields in their places; nothing else changes. -/
def Obligations.CfgpackAnswersTheByte : Prop :=
  ∀ (nvb : Bit) (res : Resolution) (ft : FaultTolerance) (pol tm sd : Bit) (s : State), ∃ b : Byte,
    exec (.cfgpack nvb res ft pol tm sd) s =
      .next { s with response := some { status := .ok, info := 0, results := { byteOut := some b } } } ∧
    b.toNat = 128 * nvb.toNat + 32 * res.code.toNat + 8 * ft.code.toNat + 4 * pol.toNat + 2 * tm.toNat + sd.toNat

/-- R101: CFGUNPACK answers OK with the six fields of the byte; nothing else changes. -/
def Obligations.CfgunpackAnswersTheFields : Prop :=
  ∀ (b : Byte) (s : State), ∃ f : ConfigFields,
    exec (.cfgunpack b) s = .next { s with
      response := some { status := .ok, info := 0,
                         results := { nvbOut := some f.nvb, resOut := some f.res, ftOut := some f.ft,
                                      polOut := some f.pol, tmOut := some f.tm, sdOut := some f.sd } } } ∧
    f.nvb.toNat = b.toNat / 128 ∧ f.res.code.toNat = b.toNat / 32 % 4 ∧ f.ft.code.toNat = b.toNat / 8 % 4 ∧
    f.pol.toNat = b.toNat / 4 % 2 ∧ f.tm.toNat = b.toNat / 2 % 2 ∧ f.sd.toNat = b.toNat % 2

/-- R102: CFGPACK and CFGUNPACK are inverse bijections. -/
def Obligations.PackAndUnpackAreInverse : Prop :=
  (∀ b : Byte, packConfig (unpackConfig b) = b) ∧ (∀ f : ConfigFields, unpackConfig (packConfig f) = f)

/-- R103: WITH_FT is unpack, modify the field, pack; and it is the partial update of R20 on every byte the cache can
hold. -/
def Obligations.WithFtReplacesOneField : Prop :=
  ∀ (b : Byte) (ft : FaultTolerance),
    withFt b ft = (b &&& 0xE7#8) ||| ft.code.zeroExtend 8 <<< 3 ∧
    withFt b ft = packConfig { unpackConfig b with ft := ft } ∧
    (b &&& 0x80 = 0 → withFt b ft = updateField b maskFt 3 ft.code)

/-! ## The controller -/

/-- R110: BUSADDR answers OK with the prefix and the three straps; nothing else changes, `BUS_ADDR` among it. -/
def Obligations.BusaddrAnswersTheAddress : Prop :=
  ∀ (a2 a1 a0 : Bit) (s : State), ∃ a : BusAddr,
    exec (.busaddr a2 a1 a0) s =
      .next { s with response := some { status := .ok, info := 0, results := { addrOut := some a } } } ∧
    a.toNat = 0x48 + 4 * a2.toNat + 2 * a1.toNat + a0.toNat

/-- R111, R156: before INIT the four gated operations answer NOT_INIT whatever their operands and touch nothing; no
other operation ever answers NOT_INIT, and these do not once INIT is done. -/
def Obligations.GatedOperationsNeedInit : Prop :=
  (∀ (i : Instr) (s : State), isGated i = true → s.initDone = false →
    exec i s = .next { s with response := some { status := .notInit, info := 0, results := Results.empty } }) ∧
  (∀ (i : Instr) (s t : State) (r : Response), exec i s = .next t → t.response = some r → r.status = .notInit →
    isGated i = true ∧ s.initDone = false)

/-- R112: INIT whose write succeeds. -/
def Obligations.InitCreatesTheHandle : Prop :=
  ∀ (a2 a1 a0 : Bit) (res : Resolution) (s : State), s.writeOutcome 0 = .ok →
    ∃ (a : BusAddr) (b : Byte),
      exec (.init a2 a1 a0 res) s = .next { s with
        handle := some { busAddr := a, cfgCache := b }
        history := s.history ++ [.evW a [0x01, b] .ok]
        writeDraws := s.writeDraws + 1
        response := some { status := .ok, info := 0, results := { addrOut := some a } } } ∧
      a.toNat = 0x48 + 4 * a2.toNat + 2 * a1.toNat + a0.toNat ∧ b.toNat = 32 * res.code.toNat

/-- R114: INIT whose write fails: the address, the cache and `INIT_DONE` stand, and no address is answered. -/
def Obligations.InitWithFailedWriteStands : Prop :=
  ∀ (a2 a1 a0 : Bit) (res : Resolution) (s : State), s.writeOutcome 0 = .fail →
    ∃ (a : BusAddr) (b : Byte),
      exec (.init a2 a1 a0 res) s = .next { s with
        handle := some { busAddr := a, cfgCache := b }
        history := s.history ++ [.evW a [0x01, b] .fail]
        writeDraws := s.writeDraws + 1
        response := some { status := .transport, info := 0, results := Results.empty } } ∧
      a.toNat = 0x48 + 4 * a2.toNat + 2 * a1.toNat + a0.toNat ∧ b.toNat = 32 * res.code.toNat

/-- R116: RDTEMP whose two events succeed: the pointer write, the two-byte read, and the decoded value of the bytes in
the order received; nothing of the handle changes. -/
def Obligations.RdtempAnswersTheDecodedBytes : Prop :=
  ∀ (p : Pointer) (s : State) (h : Handle) (b1 b2 : Byte), s.params.Legal → s.handle = some h → p ≠ .config →
    s.writeOutcome 0 = .ok → s.readOutcome 0 = .ok b1 b2 →
    ∃ (q : Byte) (c : BitVec s.params.cw),
      exec (.rdtemp p) s = .next { s with
        history := s.history ++ [.evW h.busAddr [q] .ok, .evR h.busAddr 2 (.ok b1 b2)]
        writeDraws := s.writeDraws + 1
        readDraws := s.readDraws + 1
        response := some { status := .ok, info := 0, results := { cOut := some c.toNat } } } ∧
      q.toNat = p.code.toNat ∧
      c.toInt = (if b1.toNat < 128 then 1 else -1)
        * ((16 * (b1.toNat % 128) + b2.toNat / 16 : Nat) : Int) * 2 ^ (s.params.fw - 4)

/-- R117: the CONFIG pointer is refused with BAD_POINTER before any bus event; nothing else changes. -/
def Obligations.RdtempRefusesTheConfigPointer : Prop :=
  ∀ (s : State) (h : Handle), s.handle = some h →
    exec (.rdtemp .config) s =
      .next { s with response := some { status := .badPointer, info := 0, results := Results.empty } }

/-- R118, R133: a failed RDTEMP answers TRANSPORT with the number of the failed event and no value; after a failed
pointer write there is no read. -/
def Obligations.RdtempPropagatesFailure : Prop :=
  ∀ (p : Pointer) (s : State) (h : Handle), s.handle = some h → p ≠ .config → ∃ q : Byte,
    q.toNat = p.code.toNat ∧
    (s.writeOutcome 0 = .fail →
      exec (.rdtemp p) s = .next { s with
        history := s.history ++ [.evW h.busAddr [q] .fail]
        writeDraws := s.writeDraws + 1
        response := some { status := .transport, info := 0, results := Results.empty } }) ∧
    (s.writeOutcome 0 = .ok → s.readOutcome 0 = .fail →
      exec (.rdtemp p) s = .next { s with
        history := s.history ++ [.evW h.busAddr [q] .ok, .evR h.busAddr 2 .fail]
        writeDraws := s.writeDraws + 1
        readDraws := s.readDraws + 1
        response := some { status := .transport, info := 1, results := Results.empty } })

/-- R176: a read that never completes gives no response, and from there no step is enabled until a reset.
The record of the waiting read and the form of the stop are the model's choice (log 5). -/
def Obligations.BlockedReadNeverAnswers : Prop :=
  ∀ (p : Pointer) (s : State) (h : Handle), s.handle = some h → p ≠ .config →
    s.writeOutcome 0 = .ok → s.readOutcome 0 = .never →
    ∃ (q : Byte) (t : State), q.toNat = p.code.toNat ∧
      t = { s with
        history := s.history ++ [.evW h.busAddr [q] .ok, .evR h.busAddr 2 .never]
        writeDraws := s.writeDraws + 1
        readDraws := s.readDraws + 1
        response := none
        hung := true } ∧
      exec (.rdtemp p) s = .next t ∧
      ((∀ rest, t.inputs ≠ .reset :: rest) → step t = .fault .readNeverCompletes)

/-- R121, R151: THERM's gate on the un-quantised operands: `info` names every test that failed; no bus event, nothing
else changes. -/
def Obligations.ThermRefusesInvalidSetpoints : Prop :=
  ∀ (trip hyst : Celsius) (nt nh : Int) (ft : FaultTolerance) (s : State) (h : Handle), s.handle = some h →
    nt = sintOf s.params.cw trip → nh = sintOf s.params.cw hyst →
    (nt < -55 * 2 ^ s.params.fw ∨ 125 * 2 ^ s.params.fw < nt ∨
      nh < -55 * 2 ^ s.params.fw ∨ 125 * 2 ^ s.params.fw < nh ∨ nt < nh) →
    ∃ info : BitVec 3,
      exec (.therm trip hyst ft) s =
        .next { s with response := some { status := .validation, info := info, results := Results.empty } } ∧
      (info.getLsbD 0 = true ↔ nt < -55 * 2 ^ s.params.fw ∨ 125 * 2 ^ s.params.fw < nt) ∧
      (info.getLsbD 1 = true ↔ nh < -55 * 2 ^ s.params.fw ∨ 125 * 2 ^ s.params.fw < nh) ∧
      (info.getLsbD 2 = true ↔ nt < nh)

/-- R120, R122: THERM whose three writes succeed: TRIP, HYST, CONFIG in that order, the cache with the new
fault-tolerance field and its other bits kept.
That bit 7 is clear also in a state whose cache has it set is the model's inference (log 14). -/
def Obligations.ThermWritesSetpointsAndConfiguration : Prop :=
  ∀ (trip hyst : Celsius) (nt nh : Int) (ft : FaultTolerance) (s : State) (h : Handle), s.params.Legal →
    s.handle = some h → nt = sintOf s.params.cw trip → nh = sintOf s.params.cw hyst →
    -55 * 2 ^ s.params.fw ≤ nh → nh ≤ nt → nt ≤ 125 * 2 ^ s.params.fw →
    s.writeOutcome 0 = .ok → s.writeOutcome 1 = .ok → s.writeOutcome 2 = .ok →
    ∃ th tl hh hl b : Byte,
      exec (.therm trip hyst ft) s = .next { s with
        handle := some { h with cfgCache := b }
        history := s.history ++ [.evW h.busAddr [0x03, th, tl] .ok, .evW h.busAddr [0x02, hh, hl] .ok,
          .evW h.busAddr [0x01, b] .ok]
        writeDraws := s.writeDraws + 3
        response := some { status := .ok, info := 0, results := Results.empty } } ∧
      th.toNat = (if nt < 0 then 128 else 0) + nt.natAbs / 2 ^ s.params.fw ∧
      tl.toNat = 16 * (nt.natAbs / 2 ^ (s.params.fw - 4) % 16) ∧
      hh.toNat = (if nh < 0 then 128 else 0) + nh.natAbs / 2 ^ s.params.fw ∧
      hl.toNat = 16 * (nh.natAbs / 2 ^ (s.params.fw - 4) % 16) ∧
      b = (h.cfgCache &&& 0x67#8) ||| ft.code.zeroExtend 8 <<< 3

/-- R123: THERM stops at its first failed event. TRIP fails: one event, no cache update. HYST fails: two events, no
cache update. CONFIG fails: three events, and the cache keeps its new value.
That bit 7 is clear also in a state whose cache has it set is the model's inference (log 14). -/
def Obligations.ThermStopsAtTheFirstFailure : Prop :=
  ∀ (trip hyst : Celsius) (nt nh : Int) (ft : FaultTolerance) (s : State) (h : Handle), s.params.Legal →
    s.handle = some h → nt = sintOf s.params.cw trip → nh = sintOf s.params.cw hyst →
    -55 * 2 ^ s.params.fw ≤ nh → nh ≤ nt → nt ≤ 125 * 2 ^ s.params.fw →
    ∃ th tl hh hl : Byte,
      (s.writeOutcome 0 = .fail →
        exec (.therm trip hyst ft) s = .next { s with
          history := s.history ++ [.evW h.busAddr [0x03, th, tl] .fail]
          writeDraws := s.writeDraws + 1
          response := some { status := .transport, info := 0, results := Results.empty } }) ∧
      (s.writeOutcome 0 = .ok → s.writeOutcome 1 = .fail →
        exec (.therm trip hyst ft) s = .next { s with
          history := s.history ++ [.evW h.busAddr [0x03, th, tl] .ok, .evW h.busAddr [0x02, hh, hl] .fail]
          writeDraws := s.writeDraws + 2
          response := some { status := .transport, info := 1, results := Results.empty } }) ∧
      (s.writeOutcome 0 = .ok → s.writeOutcome 1 = .ok → s.writeOutcome 2 = .fail →
        ∃ b : Byte, b = (h.cfgCache &&& 0x67#8) ||| ft.code.zeroExtend 8 <<< 3 ∧
        exec (.therm trip hyst ft) s = .next { s with
          handle := some { h with cfgCache := b }
          history := s.history ++ [.evW h.busAddr [0x03, th, tl] .ok, .evW h.busAddr [0x02, hh, hl] .ok,
            .evW h.busAddr [0x01, b] .fail]
          writeDraws := s.writeDraws + 3
          response := some { status := .transport, info := 2, results := Results.empty } }) ∧
      th.toNat = (if nt < 0 then 128 else 0) + nt.natAbs / 2 ^ s.params.fw ∧
      tl.toNat = 16 * (nt.natAbs / 2 ^ (s.params.fw - 4) % 16) ∧
      hh.toNat = (if nh < 0 then 128 else 0) + nh.natAbs / 2 ^ s.params.fw ∧
      hl.toNat = 16 * (nh.natAbs / 2 ^ (s.params.fw - 4) % 16)

/-- R20: whatever the outcomes of its events, THERM changes no field of the cached byte but the fault tolerance, and
where it ends with OK that field is its operand. -/
def Obligations.ThermPreservesTheOtherFields : Prop :=
  ∀ (trip hyst : Celsius) (ft : FaultTolerance) (s t : State) (h : Handle), s.handle = some h → CacheLegal h.cfgCache →
    exec (.therm trip hyst ft) s = .next t →
    ∃ h', t.handle = some h' ∧ h'.busAddr = h.busAddr ∧
      unpackConfig h'.cfgCache = { unpackConfig h.cfgCache with ft := (unpackConfig h'.cfgCache).ft } ∧
      (t.response.map Response.status = some .ok → (unpackConfig h'.cfgCache).ft = ft)

/-- R128, R129: SETCFG transmits the byte as given and caches it without bit 7, and a failed write leaves that cache. -/
def Obligations.SetcfgTransmitsAndCaches : Prop :=
  ∀ (b : Byte) (s : State) (h : Handle), s.handle = some h →
    (s.writeOutcome 0 = .ok →
      exec (.setcfg b) s = .next { s with
        handle := some { h with cfgCache := b &&& 0x7F }
        history := s.history ++ [.evW h.busAddr [0x01, b] .ok]
        writeDraws := s.writeDraws + 1
        response := some { status := .ok, info := 0, results := Results.empty } }) ∧
    (s.writeOutcome 0 = .fail →
      exec (.setcfg b) s = .next { s with
        handle := some { h with cfgCache := b &&& 0x7F }
        history := s.history ++ [.evW h.busAddr [0x01, b] .fail]
        writeDraws := s.writeDraws + 1
        response := some { status := .transport, info := 0, results := Results.empty } })

/-- R130, R131: CMD transmits any code with no pointer byte and leaves the state alone. -/
def Obligations.CmdTransmitsAnyCode : Prop :=
  ∀ (b : Byte) (s : State) (h : Handle), s.handle = some h →
    (s.writeOutcome 0 = .ok →
      exec (.cmd b) s = .next { s with
        history := s.history ++ [.evW h.busAddr [b] .ok]
        writeDraws := s.writeDraws + 1
        response := some { status := .ok, info := 0, results := Results.empty } }) ∧
    (s.writeOutcome 0 = .fail →
      exec (.cmd b) s = .next { s with
        history := s.history ++ [.evW h.busAddr [b] .fail]
        writeDraws := s.writeDraws + 1
        response := some { status := .transport, info := 0, results := Results.empty } })

/-- R155: each of the five reserved instructions answers ILLEGAL_OP and does nothing else. -/
def Obligations.ReservedInstructionsAnswerIllegalOp : Prop :=
  ∀ (i : Instr) (s : State),
    (i = .reserved0 ∨ i = .reservedC ∨ i = .reservedD ∨ i = .reservedE ∨ i = .reservedF) →
    exec i s = .next { s with response := some { status := .illegalOp, info := 0, results := Results.empty } }

/-! ## Frames -/

/-- R21, R50: the answer of DECODE, ENCODE, RESMUX, CFGPACK, CFGUNPACK, BUSADDR or a reserved code depends on the
operands and the parameters of R4 alone (which stand in the state, log 1), and the response is all they write. -/
def Obligations.PureOperationsWriteTheResponseOnly : Prop :=
  ∀ (i : Instr) (p : Config.Params), isPure i = true ∨ isReserved i = true →
    ∃ r : Response, ∀ s : State, s.params = p → exec i s = .next { s with response := some r }

/-- R21, R116, R131: RDTEMP and CMD leave `CFG_CACHE`, `BUS_ADDR` and `INIT_DONE` alone in every case, and the host's
and the environment's inputs; CMD draws no read and never blocks.
That the state has these inputs, answers, counts, `hung` and parameters beside the handle is the model's choice (logs 1,
3, 5, 7). -/
def Obligations.RdtempAndCmdLeaveTheHandle : Prop :=
  ∀ (i : Instr) (s t : State), (∃ p, i = .rdtemp p) ∨ (∃ b, i = .cmd b) → exec i s = .next t →
    t.handle = s.handle ∧ t.params = s.params ∧ t.inputs = s.inputs ∧
    t.writeAnswers = s.writeAnswers ∧ t.readAnswers = s.readAnswers ∧
    ((∃ b, i = .cmd b) → t.readDraws = s.readDraws ∧ t.hung = s.hung)

/-- R21: INIT, THERM and SETCFG write nothing but the handle, the history, the response and the count of write
events; THERM and SETCFG leave `BUS_ADDR` and `INIT_DONE` alone. -/
def Obligations.ConfigurationOperationsFrame : Prop :=
  ∀ (i : Instr) (s t : State),
    (∃ a2 a1 a0 res, i = .init a2 a1 a0 res) ∨ (∃ trip hyst ft, i = .therm trip hyst ft) ∨ (∃ b, i = .setcfg b) →
    exec i s = .next t →
    t = { s with handle := t.handle, history := t.history, response := t.response, writeDraws := t.writeDraws } ∧
    ((∀ a2 a1 a0 res, i ≠ .init a2 a1 a0 res) →
      t.initDone = s.initDone ∧ t.handle.map Handle.busAddr = s.handle.map Handle.busAddr)

/-- R13, R14, R162: only INIT writes `BUS_ADDR` and `INIT_DONE`, only INIT, THERM and SETCFG write `CFG_CACHE`, and no
operation clears `INIT_DONE`. -/
def Obligations.OnlyTheControllerWritesTheHandle : Prop :=
  ∀ (i : Instr) (s t : State), exec i s = .next t →
    (t.handle ≠ s.handle →
      (∃ a2 a1 a0 res, i = .init a2 a1 a0 res) ∨ (∃ trip hyst ft, i = .therm trip hyst ft) ∨ (∃ b, i = .setcfg b)) ∧
    (t.handle.map Handle.busAddr ≠ s.handle.map Handle.busAddr → ∃ a2 a1 a0 res, i = .init a2 a1 a0 res) ∧
    (s.initDone = true → t.initDone = true) ∧
    ((∃ a2 a1 a0 res, i = .init a2 a1 a0 res) → t.initDone = true)

/-! ## Rules of the whole machine -/

/-- R154: ILLEGAL_OP, NOT_INIT, BAD_POINTER and VALIDATION leave everything but the response as it was. -/
def Obligations.RefusalsTouchNothing : Prop :=
  ∀ (i : Instr) (s t : State) (r : Response), exec i s = .next t → t.response = some r → r.status.refuses = true →
    t = { s with response := some r }

/-- R59, R150, R151, R153: every operation answers exactly one legal response, whose Celsius port carries `CW` bits, or
blocks in its read and answers none. -/
def Obligations.EveryResponseIsLegal : Prop :=
  ∀ (i : Instr) (s t : State), exec i s = .next t →
    (∃ r, t.response = some r ∧ r.legal = true ∧ r.results.cOut.all (celsiusFits s.params.cw) = true) ∨
    (t.response = none ∧ t.hung = true ∧ ∃ p, i = .rdtemp p)

/-- R41, R44, R123, R159: an operation adds at most three events after all earlier ones, all addressed to the
`BUS_ADDR` it leaves; every added event but the last succeeded, and the last one failed exactly where the answer is
TRANSPORT, with the number of that event in `info`. -/
def Obligations.OperationsStopAtTheirFirstFailedEvent : Prop :=
  ∀ (i : Instr) (s t : State), exec i s = .next t →
    ∃ new : List Event, t.history = s.history ++ new ∧ new.length ≤ 3 ∧
      (∀ e ∈ new, t.handle.map Handle.busAddr = some e.addr) ∧
      (∀ e ∈ new.dropLast, e.succeeded = true) ∧
      (∀ r, t.response = some r → r.status = .transport →
        new.getLast?.map Event.succeeded = some false ∧ r.info.toNat + 1 = new.length) ∧
      (∀ r, t.response = some r → r.status = .ok → ∀ e ∈ new, e.succeeded = true)

/-- R22, R163: the status is not sticky: what an operation does and answers never depends on the earlier response. -/
def Obligations.StatusIsNotSticky : Prop :=
  ∀ (i : Instr) (s : State) (r : Option Response), exec i { s with response := r } = exec i s

/-- R90: the cached resolution enters no reading: two states that differ in the cache only answer RDTEMP alike. -/
def Obligations.ResolutionEntersNoReading : Prop :=
  ∀ (p : Pointer) (s : State) (h : Handle) (b : Byte), s.handle = some h →
    ∃ t, exec (.rdtemp p) s = .next t ∧
      exec (.rdtemp p) { s with handle := some { h with cfgCache := b } } =
        .next { t with handle := some { h with cfgCache := b } }

/-- R24: the cache is hidden: two states that differ in the cache only get the same answer to every operation, block
alike, and emit as many events. -/
def Obligations.NoAnswerDependsOnTheCache : Prop :=
  ∀ (i : Instr) (s t : State) (h : Handle) (b : Byte), s.handle = some h → exec i s = .next t →
    ∃ u, exec i { s with handle := some { h with cfgCache := b } } = .next u ∧
      u.response = t.response ∧ u.hung = t.hung ∧ u.handle.map Handle.busAddr = t.handle.map Handle.busAddr ∧
      u.history.length = t.history.length ∧ u.writeDraws = t.writeDraws ∧ u.readDraws = t.readDraws

/-- R12, R13, R32, R38, R40, R44, R176: the invariant `State.Sound` is kept by every step, the reset event's among
them.
That the history shows a read that waits is the model's choice (log 5). -/
def Obligations.EveryStepKeepsSound : Prop :=
  ∀ s t : State, s.Sound → step s = .next t → t.Sound

/-- R4, R27: the parameters are arguments and no state: no step changes them, the reset event's neither. That they stand
in the model's state is its choice (log 1). -/
def Obligations.EveryStepKeepsTheParameters : Prop :=
  ∀ s t : State, step s = .next t → t.params = s.params

/-- R12: the cache stays the last written configuration byte without its bit 7, whether the write succeeded or not. -/
def Obligations.EveryStepKeepsTheCacheTheLastWrite : Prop :=
  ∀ s t : State, s.CacheIsLastWrite → step s = .next t → t.CacheIsLastWrite

/-- R25, R170: both invariants hold right after reset. -/
def Obligations.ResetMeetsTheInvariants : Prop :=
  State.reset.Sound ∧ State.reset.CacheIsLastWrite

/-- R173: after a command the next THERM writes the byte cached before it, with the new fault tolerance, whatever the
command's code. That bit 7 is clear also in a state whose cache has it set is the model's inference (log 14). -/
def Obligations.ThermAfterCommandWritesTheOldCache : Prop :=
  ∀ (code : Byte) (trip hyst : Celsius) (ft : FaultTolerance) (s t u : State) (h : Handle), s.handle = some h →
    exec (.cmd code) s = .next t → exec (.therm trip hyst ft) t = .next u →
    u.response.map Response.status = some .ok →
    lastConfigByte u.history = some ((h.cfgCache &&& 0x67#8) ||| ft.code.zeroExtend 8 <<< 3)

/-! ## The wrappers -/

/-- R140, R141: the two exact conversions, and that they are inverse on all rationals. -/
def Obligations.FahrenheitConversionsAreInverse : Prop :=
  (∀ c : Rat, c2f c = c * 9 / 5 + 32) ∧ (∀ f : Rat, f2c f = (f - 32) * 5 / 9) ∧
  (∀ c : Rat, f2c (c2f c) = c) ∧ (∀ f : Rat, c2f (f2c f) = f)

/-- R6, R146: `toQ` truncates toward zero to a multiple of `2^-FW`. -/
def Obligations.ToQTruncatesTowardZero : Prop :=
  ∀ (fw : Nat) (x : Rat),
    |(toQ fw x : Rat) / 2 ^ fw| ≤ |x| ∧ |x - (toQ fw x : Rat) / 2 ^ fw| < 1 / 2 ^ fw ∧
    (0 ≤ x → 0 ≤ toQ fw x) ∧ (x ≤ 0 → toQ fw x ≤ 0)

/-- R142, at every legal `CW` and `FW`: the one-operand form is accepted from -50.0 on; from -55.0 up to there its
defaulted hysteresis is refused with `info = 0b010`. -/
def Obligations.ThermDefaultNeedsFiftyBelowZero : Prop :=
  ∀ (trip : Celsius) (nt : Int) (s : State) (h : Handle), s.params.Legal → s.handle = some h →
    nt = sintOf s.params.cw trip →
    -55 * 2 ^ s.params.fw ≤ nt → nt ≤ 125 * 2 ^ s.params.fw →
    ∃ hyst : Celsius, thermD s.params trip = some (.therm trip hyst .ft1) ∧
      sintOf s.params.cw hyst = nt - 5 * 2 ^ s.params.fw ∧
      (nt < -50 * 2 ^ s.params.fw → exec (.therm trip hyst .ft1) s = .next { s with
        response := some { status := .validation, info := 0b010, results := Results.empty } }) ∧
      (-50 * 2 ^ s.params.fw ≤ nt → ∀ t, exec (.therm trip hyst .ft1) s = .next t →
        t.response.map Response.status ≠ some .validation)

/-- R145: `RDTEMP.F` is the exact Fahrenheit value `9*s/80 + 32` of the decoded sixteenths `s`, and no value where the
status is not OK. -/
def Obligations.RdtempFahrenheitIsExact : Prop :=
  (∀ (p : Pointer) (s t : State) (h : Handle) (b1 b2 : Byte), s.params.Legal → s.handle = some h → p ≠ .config →
    s.writeOutcome 0 = .ok → s.readOutcome 0 = .ok b1 b2 → exec (rdtempF p) s = .next t →
    t.response.bind (fahrenheitOf s.params) = some (9 * (decodeSixteenths b1 b2 : Rat) / 80 + 32)) ∧
  (∀ (p : Config.Params) (r : Response), r.status ≠ .ok → fahrenheitOf p r = none)
end

