-- ==== Sys2Proof/Laws/State.lean ====
section
/-! SUPPORT. One lemma per field per update of the state, so that no later proof unfolds a record update. -/

namespace Sys2Proof.Machine

variable (s : State)

/-! ## The response ports are written. -/

@[simp] theorem State.withResponse_params (r : Option Response) :
    (s.withResponse r).params = s.params := rfl
@[simp] theorem State.withResponse_handle (r : Option Response) :
    (s.withResponse r).handle = s.handle := rfl
@[simp] theorem State.withResponse_history (r : Option Response) :
    (s.withResponse r).history = s.history := rfl
@[simp] theorem State.withResponse_response (r : Option Response) :
    (s.withResponse r).response = r := rfl
@[simp] theorem State.withResponse_hung (r : Option Response) :
    (s.withResponse r).hung = s.hung := rfl
@[simp] theorem State.withResponse_inputs (r : Option Response) :
    (s.withResponse r).inputs = s.inputs := rfl
@[simp] theorem State.withResponse_writeAnswers (r : Option Response) :
    (s.withResponse r).writeAnswers = s.writeAnswers := rfl
@[simp] theorem State.withResponse_readAnswers (r : Option Response) :
    (s.withResponse r).readAnswers = s.readAnswers := rfl
@[simp] theorem State.withResponse_writeDraws (r : Option Response) :
    (s.withResponse r).writeDraws = s.writeDraws := rfl
@[simp] theorem State.withResponse_readDraws (r : Option Response) :
    (s.withResponse r).readDraws = s.readDraws := rfl

/-! ## An operation ends with OK. -/

@[simp] theorem State.respond_params (r : Results) :
    (s.respond r).params = s.params := rfl
@[simp] theorem State.respond_handle (r : Results) :
    (s.respond r).handle = s.handle := rfl
@[simp] theorem State.respond_history (r : Results) :
    (s.respond r).history = s.history := rfl
@[simp] theorem State.respond_response (r : Results) :
    (s.respond r).response = some { status := .ok, info := 0, results := r } := rfl
@[simp] theorem State.respond_hung (r : Results) :
    (s.respond r).hung = s.hung := rfl
@[simp] theorem State.respond_inputs (r : Results) :
    (s.respond r).inputs = s.inputs := rfl
@[simp] theorem State.respond_writeAnswers (r : Results) :
    (s.respond r).writeAnswers = s.writeAnswers := rfl
@[simp] theorem State.respond_readAnswers (r : Results) :
    (s.respond r).readAnswers = s.readAnswers := rfl
@[simp] theorem State.respond_writeDraws (r : Results) :
    (s.respond r).writeDraws = s.writeDraws := rfl
@[simp] theorem State.respond_readDraws (r : Results) :
    (s.respond r).readDraws = s.readDraws := rfl

/-! ## A status is raised. -/

@[simp] theorem State.raise_params (st : Status) (i : BitVec 3) :
    (s.raise st i).params = s.params := rfl
@[simp] theorem State.raise_handle (st : Status) (i : BitVec 3) :
    (s.raise st i).handle = s.handle := rfl
@[simp] theorem State.raise_history (st : Status) (i : BitVec 3) :
    (s.raise st i).history = s.history := rfl
@[simp] theorem State.raise_response (st : Status) (i : BitVec 3) :
    (s.raise st i).response = some { status := st, info := i, results := Results.empty } := rfl
@[simp] theorem State.raise_hung (st : Status) (i : BitVec 3) :
    (s.raise st i).hung = s.hung := rfl
@[simp] theorem State.raise_inputs (st : Status) (i : BitVec 3) :
    (s.raise st i).inputs = s.inputs := rfl
@[simp] theorem State.raise_writeAnswers (st : Status) (i : BitVec 3) :
    (s.raise st i).writeAnswers = s.writeAnswers := rfl
@[simp] theorem State.raise_readAnswers (st : Status) (i : BitVec 3) :
    (s.raise st i).readAnswers = s.readAnswers := rfl
@[simp] theorem State.raise_writeDraws (st : Status) (i : BitVec 3) :
    (s.raise st i).writeDraws = s.writeDraws := rfl
@[simp] theorem State.raise_readDraws (st : Status) (i : BitVec 3) :
    (s.raise st i).readDraws = s.readDraws := rfl

/-! ## A read never completes. -/

@[simp] theorem State.hang_params :
    s.hang.params = s.params := rfl
@[simp] theorem State.hang_handle :
    s.hang.handle = s.handle := rfl
@[simp] theorem State.hang_history :
    s.hang.history = s.history := rfl
@[simp] theorem State.hang_response :
    s.hang.response = none := rfl
@[simp] theorem State.hang_hung :
    s.hang.hung = true := rfl
@[simp] theorem State.hang_inputs :
    s.hang.inputs = s.inputs := rfl
@[simp] theorem State.hang_writeAnswers :
    s.hang.writeAnswers = s.writeAnswers := rfl
@[simp] theorem State.hang_readAnswers :
    s.hang.readAnswers = s.readAnswers := rfl
@[simp] theorem State.hang_writeDraws :
    s.hang.writeDraws = s.writeDraws := rfl
@[simp] theorem State.hang_readDraws :
    s.hang.readDraws = s.readDraws := rfl

/-! ## The handle is written. -/

@[simp] theorem State.withHandle_params (h : Handle) :
    (s.withHandle h).params = s.params := rfl
@[simp] theorem State.withHandle_handle (h : Handle) :
    (s.withHandle h).handle = some h := rfl
@[simp] theorem State.withHandle_history (h : Handle) :
    (s.withHandle h).history = s.history := rfl
@[simp] theorem State.withHandle_response (h : Handle) :
    (s.withHandle h).response = s.response := rfl
@[simp] theorem State.withHandle_hung (h : Handle) :
    (s.withHandle h).hung = s.hung := rfl
@[simp] theorem State.withHandle_inputs (h : Handle) :
    (s.withHandle h).inputs = s.inputs := rfl
@[simp] theorem State.withHandle_writeAnswers (h : Handle) :
    (s.withHandle h).writeAnswers = s.writeAnswers := rfl
@[simp] theorem State.withHandle_readAnswers (h : Handle) :
    (s.withHandle h).readAnswers = s.readAnswers := rfl
@[simp] theorem State.withHandle_writeDraws (h : Handle) :
    (s.withHandle h).writeDraws = s.writeDraws := rfl
@[simp] theorem State.withHandle_readDraws (h : Handle) :
    (s.withHandle h).readDraws = s.readDraws := rfl

/-! ## An event joins the history. -/

@[simp] theorem State.record_params (e : Event) :
    (s.record e).params = s.params := rfl
@[simp] theorem State.record_handle (e : Event) :
    (s.record e).handle = s.handle := rfl
@[simp] theorem State.record_history (e : Event) :
    (s.record e).history = s.history ++ [e] := rfl
@[simp] theorem State.record_response (e : Event) :
    (s.record e).response = s.response := rfl
@[simp] theorem State.record_hung (e : Event) :
    (s.record e).hung = s.hung := rfl
@[simp] theorem State.record_inputs (e : Event) :
    (s.record e).inputs = s.inputs := rfl
@[simp] theorem State.record_writeAnswers (e : Event) :
    (s.record e).writeAnswers = s.writeAnswers := rfl
@[simp] theorem State.record_readAnswers (e : Event) :
    (s.record e).readAnswers = s.readAnswers := rfl
@[simp] theorem State.record_writeDraws (e : Event) :
    (s.record e).writeDraws = s.writeDraws := rfl
@[simp] theorem State.record_readDraws (e : Event) :
    (s.record e).readDraws = s.readDraws := rfl

/-! ## A write outcome is drawn. -/

@[simp] theorem State.drewWrite_params :
    s.drewWrite.params = s.params := rfl
@[simp] theorem State.drewWrite_handle :
    s.drewWrite.handle = s.handle := rfl
@[simp] theorem State.drewWrite_history :
    s.drewWrite.history = s.history := rfl
@[simp] theorem State.drewWrite_response :
    s.drewWrite.response = s.response := rfl
@[simp] theorem State.drewWrite_hung :
    s.drewWrite.hung = s.hung := rfl
@[simp] theorem State.drewWrite_inputs :
    s.drewWrite.inputs = s.inputs := rfl
@[simp] theorem State.drewWrite_writeAnswers :
    s.drewWrite.writeAnswers = s.writeAnswers := rfl
@[simp] theorem State.drewWrite_readAnswers :
    s.drewWrite.readAnswers = s.readAnswers := rfl
@[simp] theorem State.drewWrite_writeDraws :
    s.drewWrite.writeDraws = s.writeDraws + 1 := rfl
@[simp] theorem State.drewWrite_readDraws :
    s.drewWrite.readDraws = s.readDraws := rfl

/-! ## A read outcome is drawn. -/

@[simp] theorem State.drewRead_params :
    s.drewRead.params = s.params := rfl
@[simp] theorem State.drewRead_handle :
    s.drewRead.handle = s.handle := rfl
@[simp] theorem State.drewRead_history :
    s.drewRead.history = s.history := rfl
@[simp] theorem State.drewRead_response :
    s.drewRead.response = s.response := rfl
@[simp] theorem State.drewRead_hung :
    s.drewRead.hung = s.hung := rfl
@[simp] theorem State.drewRead_inputs :
    s.drewRead.inputs = s.inputs := rfl
@[simp] theorem State.drewRead_writeAnswers :
    s.drewRead.writeAnswers = s.writeAnswers := rfl
@[simp] theorem State.drewRead_readAnswers :
    s.drewRead.readAnswers = s.readAnswers := rfl
@[simp] theorem State.drewRead_writeDraws :
    s.drewRead.writeDraws = s.writeDraws := rfl
@[simp] theorem State.drewRead_readDraws :
    s.drewRead.readDraws = s.readDraws + 1 := rfl

/-! ## The host's inputs are written. -/

@[simp] theorem State.withInputs_params (l : List HostInput) :
    (s.withInputs l).params = s.params := rfl
@[simp] theorem State.withInputs_handle (l : List HostInput) :
    (s.withInputs l).handle = s.handle := rfl
@[simp] theorem State.withInputs_history (l : List HostInput) :
    (s.withInputs l).history = s.history := rfl
@[simp] theorem State.withInputs_response (l : List HostInput) :
    (s.withInputs l).response = s.response := rfl
@[simp] theorem State.withInputs_hung (l : List HostInput) :
    (s.withInputs l).hung = s.hung := rfl
@[simp] theorem State.withInputs_inputs (l : List HostInput) :
    (s.withInputs l).inputs = l := rfl
@[simp] theorem State.withInputs_writeAnswers (l : List HostInput) :
    (s.withInputs l).writeAnswers = s.writeAnswers := rfl
@[simp] theorem State.withInputs_readAnswers (l : List HostInput) :
    (s.withInputs l).readAnswers = s.readAnswers := rfl
@[simp] theorem State.withInputs_writeDraws (l : List HostInput) :
    (s.withInputs l).writeDraws = s.writeDraws := rfl
@[simp] theorem State.withInputs_readDraws (l : List HostInput) :
    (s.withInputs l).readDraws = s.readDraws := rfl

/-! ## A request is presented. -/

@[simp] theorem State.present_params (r : Request) :
    (s.present r).params = s.params := rfl
@[simp] theorem State.present_handle (r : Request) :
    (s.present r).handle = s.handle := rfl
@[simp] theorem State.present_history (r : Request) :
    (s.present r).history = s.history := rfl
@[simp] theorem State.present_response (r : Request) :
    (s.present r).response = s.response := rfl
@[simp] theorem State.present_hung (r : Request) :
    (s.present r).hung = false := rfl
@[simp] theorem State.present_inputs (r : Request) :
    (s.present r).inputs = .request r :: s.inputs := rfl
@[simp] theorem State.present_writeAnswers (r : Request) :
    (s.present r).writeAnswers = s.writeAnswers := rfl
@[simp] theorem State.present_readAnswers (r : Request) :
    (s.present r).readAnswers = s.readAnswers := rfl
@[simp] theorem State.present_writeDraws (r : Request) :
    (s.present r).writeDraws = s.writeDraws := rfl
@[simp] theorem State.present_readDraws (r : Request) :
    (s.present r).readDraws = s.readDraws := rfl

/-! ## The reset event. -/

@[simp] theorem State.applyReset_params :
    s.applyReset.params = s.params := rfl
@[simp] theorem State.applyReset_handle :
    s.applyReset.handle = none := rfl
@[simp] theorem State.applyReset_history :
    s.applyReset.history = [] := rfl
@[simp] theorem State.applyReset_response :
    s.applyReset.response = none := rfl
@[simp] theorem State.applyReset_hung :
    s.applyReset.hung = false := rfl
@[simp] theorem State.applyReset_inputs :
    s.applyReset.inputs = s.inputs := rfl
@[simp] theorem State.applyReset_writeAnswers :
    s.applyReset.writeAnswers = s.writeAnswers := rfl
@[simp] theorem State.applyReset_readAnswers :
    s.applyReset.readAnswers = s.readAnswers := rfl
@[simp] theorem State.applyReset_writeDraws :
    s.applyReset.writeDraws = s.writeDraws := rfl
@[simp] theorem State.applyReset_readDraws :
    s.applyReset.readDraws = s.readDraws := rfl

/-! ## The handle's one write -/

@[simp] theorem Handle.writeCache_busAddr (h : Handle) (b : Byte) : (h.writeCache b).busAddr = h.busAddr := rfl
@[simp] theorem Handle.writeCache_cfgCache (h : Handle) (b : Byte) :
    (h.writeCache b).cfgCache = b &&& 0x7F := rfl

/-! ## INIT_DONE is the presence of the handle -/

theorem State.initDone_eq_true_iff : s.initDone = true ↔ ∃ h, s.handle = some h := by
  simp [State.initDone, Option.isSome_iff_exists]

theorem State.initDone_eq_false_iff : s.initDone = false ↔ s.handle = none := by
  simp [State.initDone]

end Sys2Proof.Machine
end

