-- ==== Sys2Proof/Laws/Ops.lean ====
section
/-! SUPPORT. What each shared operation can do, said once: the draws of the environment's answers, the bus
events, the short-circuit after a failed one, and the gate. Later proofs cite these and unfold none of them. -/

namespace Sys2Proof.Machine

variable (s : State)

/-! ## The draws depend on the answers and the counters alone -/

@[simp] theorem State.writeOutcome_withResponse (r : Option Response) (k : Nat) :
    (s.withResponse r).writeOutcome k = s.writeOutcome k := rfl
@[simp] theorem State.writeOutcome_withHandle (h : Handle) (k : Nat) :
    (s.withHandle h).writeOutcome k = s.writeOutcome k := rfl
@[simp] theorem State.writeOutcome_record (e : Event) (k : Nat) :
    (s.record e).writeOutcome k = s.writeOutcome k := rfl
@[simp] theorem State.writeOutcome_drewRead (k : Nat) : s.drewRead.writeOutcome k = s.writeOutcome k := rfl
@[simp] theorem State.writeOutcome_withInputs (l : List HostInput) (k : Nat) :
    (s.withInputs l).writeOutcome k = s.writeOutcome k := rfl
@[simp] theorem State.readOutcome_withResponse (r : Option Response) (k : Nat) :
    (s.withResponse r).readOutcome k = s.readOutcome k := rfl
@[simp] theorem State.readOutcome_withHandle (h : Handle) (k : Nat) :
    (s.withHandle h).readOutcome k = s.readOutcome k := rfl
@[simp] theorem State.readOutcome_record (e : Event) (k : Nat) :
    (s.record e).readOutcome k = s.readOutcome k := rfl
@[simp] theorem State.readOutcome_drewWrite (k : Nat) : s.drewWrite.readOutcome k = s.readOutcome k := rfl
@[simp] theorem State.readOutcome_withInputs (l : List HostInput) (k : Nat) :
    (s.withInputs l).readOutcome k = s.readOutcome k := rfl

/-- Drawing a write outcome makes the next one the first. -/
@[simp] theorem State.writeOutcome_drewWrite (k : Nat) : s.drewWrite.writeOutcome k = s.writeOutcome (k + 1) := by
  have e : s.writeDraws + 1 + k = s.writeDraws + (k + 1) := by omega
  simp [State.writeOutcome, e]

/-- Drawing a read outcome makes the next one the first. -/
@[simp] theorem State.readOutcome_drewRead (k : Nat) : s.drewRead.readOutcome k = s.readOutcome (k + 1) := by
  have e : s.readDraws + 1 + k = s.readDraws + (k + 1) := by omega
  simp [State.readOutcome, e]

/-- A scripted write answer is the outcome. -/
theorem State.writeOutcome_scripted (k : Nat) (o : Config.WriteOutcome)
    (h : s.writeAnswers[s.writeDraws + k]? = some o) : s.writeOutcome k = o := by
  simp [State.writeOutcome, h]

/-- A scripted read answer is the outcome. -/
theorem State.readOutcome_scripted (k : Nat) (o : Config.ReadOutcome)
    (h : s.readAnswers[s.readDraws + k]? = some o) : s.readOutcome k = o := by
  simp [State.readOutcome, h]

/-! ## The bus events and the primitives of R7 -/

/-- A write event answers the next outcome, and adds itself to the history and one to the count. -/
theorem State.busWrite_eq (a : BusAddr) (bytes : List Byte) :
    s.busWrite a bytes = (s.writeOutcome 0, (s.record (.evW a bytes (s.writeOutcome 0))).drewWrite) := rfl

/-- A read event answers the next outcome, and adds itself to the history and one to the count. -/
theorem State.busRead_eq (a : BusAddr) :
    s.busRead a = (s.readOutcome 0, (s.record (.evR a 2 (s.readOutcome 0))).drewRead) := rfl

theorem State.memWrite_eq (h : Handle) (p : Pointer) (data : List Byte) :
    s.memWrite h p data = s.busWrite h.busAddr (pointerByte p :: data) := rfl

theorem State.cmdWrite_eq (h : Handle) (code : Byte) : s.cmdWrite h code = s.busWrite h.busAddr [code] := rfl

theorem State.selectRegister_eq (h : Handle) (p : Pointer) :
    s.selectRegister h p = s.busWrite h.busAddr [pointerByte p] := rfl

/-- The pointer bytes of R62. -/
@[simp] theorem pointerByte_temp : pointerByte .temp = 0x00 := by decide
@[simp] theorem pointerByte_config : pointerByte .config = 0x01 := by decide
@[simp] theorem pointerByte_hyst : pointerByte .hyst = 0x02 := by decide
@[simp] theorem pointerByte_trip : pointerByte .trip = 0x03 := by decide

/-! ## Short-circuit -/

@[simp] theorem orTransport_ok (t : State) (i : BitVec 3) (k : State → State) :
    orTransport (.ok, t) i k = k t := rfl

@[simp] theorem orTransport_fail (t : State) (i : BitVec 3) (k : State → State) :
    orTransport (.fail, t) i k = t.raise .transport i := rfl

/-- After a write event the operation goes on, or raises TRANSPORT; there is no third case (R123, R159). -/
theorem orTransport_cases (e : Config.WriteOutcome × State) (i : BitVec 3) (k : State → State) :
    (e.1 = .ok ∧ orTransport e i k = k e.2) ∨ (e.1 = .fail ∧ orTransport e i k = e.2.raise .transport i) := by
  obtain ⟨o, t⟩ := e
  cases o <;> simp

@[simp] theorem orReadFailure_ok (b1 b2 : Byte) (t : State) (k : Byte → Byte → State → State) :
    orReadFailure (.ok b1 b2, t) k = k b1 b2 t := rfl

@[simp] theorem orReadFailure_fail (t : State) (k : Byte → Byte → State → State) :
    orReadFailure (.fail, t) k = t.raise .transport 1 := rfl

@[simp] theorem orReadFailure_never (t : State) (k : Byte → Byte → State → State) :
    orReadFailure (.never, t) k = t.hang := rfl

/-- After a read event the operation goes on with the two bytes, raises TRANSPORT, or hangs (R38, R118, R176). -/
theorem orReadFailure_cases (e : Config.ReadOutcome × State) (k : Byte → Byte → State → State) :
    (∃ b1 b2, e.1 = .ok b1 b2 ∧ orReadFailure e k = k b1 b2 e.2) ∨
    (e.1 = .fail ∧ orReadFailure e k = e.2.raise .transport 1) ∨
    (e.1 = .never ∧ orReadFailure e k = e.2.hang) := by
  obtain ⟨o, t⟩ := e
  cases o <;> simp

/-! ## The gate -/

theorem State.whenInit_none (k : Handle → State) (h : s.handle = none) :
    s.whenInit k = s.raise .notInit 0 := by
  simp [State.whenInit, h]

theorem State.whenInit_some (k : Handle → State) {h : Handle} (e : s.handle = some h) :
    s.whenInit k = k h := by
  simp [State.whenInit, e]

/-- A gated operation raises NOT_INIT, or runs on the handle (R111). -/
theorem State.whenInit_cases (k : Handle → State) :
    (s.handle = none ∧ s.whenInit k = s.raise .notInit 0) ∨
    (∃ h, s.handle = some h ∧ s.whenInit k = k h) := by
  cases e : s.handle with
  | none => exact .inl ⟨rfl, s.whenInit_none k e⟩
  | some h => exact .inr ⟨h, rfl, s.whenInit_some k e⟩

/-! ## The configuration write shared by THERM and SETCFG -/

/-- What `writeConfig` leaves: the handle with the new cache and the one event, whatever its outcome (R123, R174). -/
theorem writeConfig_leaves (h : Handle) (cached sent : Byte) (i : BitVec 3) :
    ∃ r, writeConfig h cached sent i s =
      (((s.withHandle (h.writeCache cached)).record
        (.evW h.busAddr [0x01, sent] (s.writeOutcome 0))).drewWrite).withResponse (some r) := by
  unfold writeConfig
  rcases orTransport_cases ((s.withHandle (h.writeCache cached)).memWrite h .config [sent]) i
      (fun t => t.respond Results.empty) with ⟨_, e⟩ | ⟨_, e⟩
  · exact ⟨_, e.trans rfl⟩
  · exact ⟨_, e.trans rfl⟩

/-! ## No operation stops -/

/-- Every operation ends in a next state: refusals of the block are responses, not stops (R161). -/
theorem exec_next (i : Instr) : ∃ t, exec i s = .next t := by
  cases i <;> exact ⟨_, rfl⟩

end Sys2Proof.Machine
end

