-- ==== Sys2Proof/Laws/Codec.lean ====
section
/-! SUPPORT. What the codec's and the packer's functions compute, in plain arithmetic: the range check, the bits of
THERM's `info`, the decoded sixteenths, one line of the greedy loop, the fields of a code. -/

namespace Sys2Proof.Machine

/-- R85: the range check, in numbers. -/
theorem inRange_iff (fw : Nat) (n : Int) : inRange fw n = true ↔ -55 * 2 ^ fw ≤ n ∧ n ≤ 125 * 2 ^ fw := by
  unfold inRange tMin tMax
  rw [Bool.and_eq_true, decide_eq_true_iff, decide_eq_true_iff]

/-- R120: the three bits of THERM's `info`. -/
theorem thermInfo_bits (fw : Nat) (nt nh : Int) :
    (thermInfo fw nt nh).getLsbD 0 = (!inRange fw nt) ∧
    (thermInfo fw nt nh).getLsbD 1 = (!inRange fw nh) ∧
    (thermInfo fw nt nh).getLsbD 2 = decide (nt < nh) := by
  unfold thermInfo
  generalize decide (nt < nh) = a
  generalize inRange fw nt = b
  generalize inRange fw nh = c
  revert a b c
  decide

/-- R120, R121: THERM's gate passes exactly where both setpoints are in range and trip is not below hysteresis. -/
theorem thermInfo_eq_zero_iff (fw : Nat) (nt nh : Int) :
    thermInfo fw nt nh = 0 ↔ inRange fw nt = true ∧ inRange fw nh = true ∧ nh ≤ nt := by
  have e : thermInfo fw nt nh = 0 ↔ inRange fw nt = true ∧ inRange fw nh = true ∧ decide (nt < nh) = false := by
    unfold thermInfo
    generalize decide (nt < nh) = a
    generalize inRange fw nt = b
    generalize inRange fw nh = c
    revert a b c
    decide
  rw [e, decide_eq_false_iff_not, not_lt]

/-- R80: the magnitude in sixteenths is below 2048. -/
theorem decodeMagnitude_lt (high low : Byte) : decodeMagnitude high low < 2048 := by
  have h1 := (high.extractLsb' 0 7).isLt
  have h2 := (low.extractLsb' 4 4).isLt
  unfold decodeMagnitude
  omega

/-- R80: the magnitude in sixteenths, by the numbers of the two bytes. -/
theorem decodeMagnitude_eq (high low : Byte) :
    decodeMagnitude high low = 16 * (high.toNat % 128) + low.toNat / 16 := by
  have h1 : (high.extractLsb' 0 7).toNat = high.toNat % 128 := by simp
  have h2 : (low.extractLsb' 4 4).toNat = low.toNat / 16 := by
    have := low.isLt
    simp [Nat.shiftRight_eq_div_pow]
    omega
  rw [decodeMagnitude, h1, h2]

/-- R80: the sign bit, by the number of the high byte. -/
theorem signBit_eq (high : Byte) : high.getLsbD 7 = decide (128 ≤ high.toNat) := by
  have e : high.getLsbD 7 = high.msb := by simp [BitVec.msb_eq_getLsbD_last]
  rw [e, BitVec.msb_eq_decide]

/-- R84: a line of the greedy loop takes the weight, or leaves everything. -/
theorem takeWeight_cases (weight : Nat) (bit : Byte) (x : Nat × Byte) :
    (weight ≤ x.1 ∧ takeWeight weight bit x = (x.1 - weight, x.2 ||| bit)) ∨
    (x.1 < weight ∧ takeWeight weight bit x = x) := by
  unfold takeWeight
  by_cases h : weight ≤ x.1
  · exact .inl ⟨h, by rw [if_pos h]⟩
  · exact .inr ⟨by omega, by rw [if_neg h]⟩

/-- R56: the pattern and the name of a resolution determine each other. -/
theorem resolution_code_ofCode (c : BitVec 2) : (Resolution.ofCode c).code = c := by
  revert c
  decide

/-- R57: the pattern and the name of a fault tolerance determine each other. -/
theorem faultTolerance_code_ofCode (c : BitVec 2) : (FaultTolerance.ofCode c).code = c := by
  revert c
  decide

/-- R62: the pattern and the name of a pointer determine each other. -/
theorem pointer_code_ofCode (c : BitVec 2) : (Pointer.ofCode c).code = c := by
  revert c
  decide

/-- R20: what WITH_FT makes of the cache once bit 7 is hardwired: the other cached bits kept. -/
theorem writeCache_withFt (h : Handle) (b : Byte) (ft : FaultTolerance) :
    (h.writeCache (withFt b ft)).cfgCache = (b &&& 0x67#8) ||| ft.code.zeroExtend 8 <<< 3 := by
  simp only [Handle.writeCache_cfgCache]
  cases ft <;> (revert b; decide +kernel)

end Sys2Proof.Machine
end

