-- ==== Sys2Proof/Laws/Controller.lean ====
section
/-! SUPPORT. Everything each controller operation can do, as one list of possible next states, so that a proof about
all operations splits a list and unfolds no operation. -/

namespace Sys2Proof.Machine

variable (s : State)

/-- INIT: two possible next states (R112, R114). -/
theorem initRun_cases (h : Handle) :
    (s.writeOutcome 0 = .ok ∧ initRun h s = { s with
      handle := some h
      history := s.history ++ [.evW h.busAddr [0x01, h.cfgCache] .ok]
      writeDraws := s.writeDraws + 1
      response := some { status := .ok, info := 0, results := { addrOut := some h.busAddr } } }) ∨
    (s.writeOutcome 0 = .fail ∧ initRun h s = { s with
      handle := some h
      history := s.history ++ [.evW h.busAddr [0x01, h.cfgCache] .fail]
      writeDraws := s.writeDraws + 1
      response := some { status := .transport, info := 0, results := Results.empty } }) := by
  rcases e : s.writeOutcome 0 with _ | _
  · exact .inl ⟨rfl, by simp only [initRun, State.memWrite_eq, State.busWrite_eq, State.writeOutcome_withHandle, e]; rfl⟩
  · exact .inr ⟨rfl, by simp only [initRun, State.memWrite_eq, State.busWrite_eq, State.writeOutcome_withHandle, e]; rfl⟩

/-- SETCFG, and the last part of THERM: two possible next states (R123, R128). -/
theorem writeConfig_cases (h : Handle) (cached sent : Byte) (i : BitVec 3) :
    (s.writeOutcome 0 = .ok ∧ writeConfig h cached sent i s = { s with
      handle := some (h.writeCache cached)
      history := s.history ++ [.evW h.busAddr [0x01, sent] .ok]
      writeDraws := s.writeDraws + 1
      response := some { status := .ok, info := 0, results := Results.empty } }) ∨
    (s.writeOutcome 0 = .fail ∧ writeConfig h cached sent i s = { s with
      handle := some (h.writeCache cached)
      history := s.history ++ [.evW h.busAddr [0x01, sent] .fail]
      writeDraws := s.writeDraws + 1
      response := some { status := .transport, info := i, results := Results.empty } }) := by
  rcases e : s.writeOutcome 0 with _ | _
  · exact .inl ⟨rfl, by simp only [writeConfig, State.memWrite_eq, State.busWrite_eq, State.writeOutcome_withHandle, e]; rfl⟩
  · exact .inr ⟨rfl, by simp only [writeConfig, State.memWrite_eq, State.busWrite_eq, State.writeOutcome_withHandle, e]; rfl⟩

/-- CMD past the gate: two possible next states (R130). -/
theorem cmdRun_cases (code : Byte) (h : Handle) :
    (s.writeOutcome 0 = .ok ∧ cmdRun code h s = { s with
      history := s.history ++ [.evW h.busAddr [code] .ok]
      writeDraws := s.writeDraws + 1
      response := some { status := .ok, info := 0, results := Results.empty } }) ∨
    (s.writeOutcome 0 = .fail ∧ cmdRun code h s = { s with
      history := s.history ++ [.evW h.busAddr [code] .fail]
      writeDraws := s.writeDraws + 1
      response := some { status := .transport, info := 0, results := Results.empty } }) := by
  rcases e : s.writeOutcome 0 with _ | _
  · exact .inl ⟨rfl, by simp only [cmdRun, State.cmdWrite_eq, State.busWrite_eq, e]; rfl⟩
  · exact .inr ⟨rfl, by simp only [cmdRun, State.cmdWrite_eq, State.busWrite_eq, e]; rfl⟩

/-- RDTEMP past the gate: refused, stopped at its pointer write, or ended by its read in one of three ways (R116). -/
theorem rdtempRun_cases (p : Pointer) (h : Handle) :
    (p = .config ∧ rdtempRun p h s = s.raise .badPointer 0) ∨
    (p ≠ .config ∧ s.writeOutcome 0 = .fail ∧ rdtempRun p h s = { s with
      history := s.history ++ [.evW h.busAddr [pointerByte p] .fail]
      writeDraws := s.writeDraws + 1
      response := some { status := .transport, info := 0, results := Results.empty } }) ∨
    (p ≠ .config ∧ s.writeOutcome 0 = .ok ∧ (∃ b1 b2, s.readOutcome 0 = .ok b1 b2 ∧ rdtempRun p h s = { s with
      history := s.history ++ [.evW h.busAddr [pointerByte p] .ok, .evR h.busAddr 2 (.ok b1 b2)]
      writeDraws := s.writeDraws + 1
      readDraws := s.readDraws + 1
      response := some
        { status := .ok, info := 0, results := { cOut := some (decodeValue s.params.cw s.params.fw b1 b2).toNat } } })) ∨
    (p ≠ .config ∧ s.writeOutcome 0 = .ok ∧ s.readOutcome 0 = .fail ∧ rdtempRun p h s = { s with
      history := s.history ++ [.evW h.busAddr [pointerByte p] .ok, .evR h.busAddr 2 .fail]
      writeDraws := s.writeDraws + 1
      readDraws := s.readDraws + 1
      response := some { status := .transport, info := 1, results := Results.empty } }) ∨
    (p ≠ .config ∧ s.writeOutcome 0 = .ok ∧ s.readOutcome 0 = .never ∧ rdtempRun p h s = { s with
      history := s.history ++ [.evW h.busAddr [pointerByte p] .ok, .evR h.busAddr 2 .never]
      writeDraws := s.writeDraws + 1
      readDraws := s.readDraws + 1
      response := none
      hung := true }) := by
  by_cases hp : p = .config
  · subst hp
    exact .inl ⟨rfl, rfl⟩
  have run : rdtempRun p h s = orTransport (s.selectRegister h p) 0 fun t =>
      orReadFailure (t.busRead h.busAddr) fun b1 b2 u =>
        u.respond { cOut := some (decodeValue s.params.cw s.params.fw b1 b2).toNat } := by
    cases p <;> first | rfl | exact absurd rfl hp
  rw [run]
  rcases e : s.writeOutcome 0 with _ | _
  · rcases r : s.readOutcome 0 with ⟨b1, b2⟩ | _ | _ <;>
      simp [hp, State.selectRegister_eq, State.busWrite_eq, State.busRead_eq, e, r, State.raise, State.respond,
        State.hang] <;>
      simp [State.withResponse, State.drewRead, State.drewWrite, State.record]
  · simp [hp, State.selectRegister_eq, State.busWrite_eq, e, State.raise]
    rfl

/-- THERM's writes: stopped at TRIP, stopped at HYST, or ended by its CONFIG write in one of two ways (R122, R123). -/
theorem thermWrites_cases (trip hyst : Celsius) (ft : FaultTolerance) (h : Handle) :
    (s.writeOutcome 0 = .fail ∧ thermWrites trip hyst ft h s = { s with
      history := s.history ++ [.evW h.busAddr (0x03 :: setpointBytes s.params trip) .fail]
      writeDraws := s.writeDraws + 1
      response := some { status := .transport, info := 0, results := Results.empty } }) ∨
    (s.writeOutcome 0 = .ok ∧ s.writeOutcome 1 = .fail ∧ thermWrites trip hyst ft h s = { s with
      history := s.history ++ [.evW h.busAddr (0x03 :: setpointBytes s.params trip) .ok,
        .evW h.busAddr (0x02 :: setpointBytes s.params hyst) .fail]
      writeDraws := s.writeDraws + 2
      response := some { status := .transport, info := 1, results := Results.empty } }) ∨
    (s.writeOutcome 0 = .ok ∧ s.writeOutcome 1 = .ok ∧ s.writeOutcome 2 = .ok ∧
      thermWrites trip hyst ft h s = { s with
        handle := some (h.writeCache (withFt h.cfgCache ft))
        history := s.history ++ [.evW h.busAddr (0x03 :: setpointBytes s.params trip) .ok,
          .evW h.busAddr (0x02 :: setpointBytes s.params hyst) .ok,
          .evW h.busAddr [0x01, (h.writeCache (withFt h.cfgCache ft)).cfgCache] .ok]
        writeDraws := s.writeDraws + 3
        response := some { status := .ok, info := 0, results := Results.empty } }) ∨
    (s.writeOutcome 0 = .ok ∧ s.writeOutcome 1 = .ok ∧ s.writeOutcome 2 = .fail ∧
      thermWrites trip hyst ft h s = { s with
        handle := some (h.writeCache (withFt h.cfgCache ft))
        history := s.history ++ [.evW h.busAddr (0x03 :: setpointBytes s.params trip) .ok,
          .evW h.busAddr (0x02 :: setpointBytes s.params hyst) .ok,
          .evW h.busAddr [0x01, (h.writeCache (withFt h.cfgCache ft)).cfgCache] .fail]
        writeDraws := s.writeDraws + 3
        response := some { status := .transport, info := 2, results := Results.empty } }) := by
  rcases e0 : s.writeOutcome 0 with _ | _
  · rcases e1 : s.writeOutcome 1 with _ | _
    · rcases e2 : s.writeOutcome 2 with _ | _ <;>
        simp [thermWrites, writeConfig, State.memWrite_eq, State.busWrite_eq, e0, e1, e2, State.raise,
          State.respond] <;>
        simp [State.withResponse, State.withHandle, State.drewWrite, State.record]
    · simp [thermWrites, State.memWrite_eq, State.busWrite_eq, e0, e1, State.raise]
      simp [State.withResponse, State.drewWrite, State.record]
  · simp [thermWrites, State.memWrite_eq, State.busWrite_eq, e0, State.raise]
    rfl

/-- THERM past the gate: refused, or its writes (R121). -/
theorem thermRun_cases (trip hyst : Celsius) (ft : FaultTolerance) (h : Handle) :
    (thermGate s.params trip hyst = 0 ∧ thermRun trip hyst ft h s = thermWrites trip hyst ft h s) ∨
    (thermGate s.params trip hyst ≠ 0 ∧
      thermRun trip hyst ft h s = s.raise .validation (thermGate s.params trip hyst)) := by
  unfold thermRun
  by_cases e : thermGate s.params trip hyst = 0
  · exact .inl ⟨e, if_pos e⟩
  · exact .inr ⟨e, if_neg e⟩

/-- A pure operation or a reserved code gives one legal response, the same from every state with the same parameters,
and nothing else. -/
theorem exec_of_pure_or_reserved (i : Instr) (h : isPure i = true ∨ isReserved i = true) (p : Config.Params) :
    ∃ r : Response, r.legal = true ∧ (r.status = .ok ∨ r.status = .validation ∨ r.status = .illegalOp) ∧
      r.results.cOut.all (celsiusFits p.cw) = true ∧
      ∀ s : State, s.params = p → exec i s = .next { s with response := some r } := by
  cases i <;> simp [isPure, isReserved] at h
  case decode high low =>
    exact ⟨⟨.ok, 0, { cOut := some (decodeValue p.cw p.fw high low).toNat }⟩, rfl, .inl rfl,
      by simp [celsiusFits, BitVec.isLt], fun s e => by subst e; rfl⟩
  case encode c =>
    by_cases e : inRange p.fw (sintOf p.cw c) = true
    · exact ⟨{ status := .ok, info := 0,
               results := { highOut := some (encodeHigh p.fw (sintOf p.cw c))
                            lowOut := some (encodeLow p.fw (sintOf p.cw c)) } },
        rfl, .inl rfl, rfl, fun s q => by subst q; simp [exec, execEncode, e, State.respond, State.withResponse]⟩
    · exact ⟨⟨.validation, 1, Results.empty⟩, rfl, .inr (.inl rfl), rfl,
        fun s q => by subst q; simp [exec, execEncode, e, State.raise, State.withResponse, encodeInfo]⟩
  all_goals first
    | exact ⟨⟨.illegalOp, 0, Results.empty⟩, rfl, .inr (.inr rfl), rfl, fun _ _ => rfl⟩
    | exact ⟨⟨.ok, 0, _⟩, rfl, .inl rfl, rfl, fun _ _ => rfl⟩

/-- Everything an operation can do: write the response alone; be refused before INIT; or be one of the five
controller operations, whose own lists are above. -/
theorem exec_cases (i : Instr) (s t : State) (h : exec i s = .next t) :
    ((isPure i = true ∨ isReserved i = true) ∧ ∃ r : Response, r.legal = true ∧
      (r.status = .ok ∨ r.status = .validation ∨ r.status = .illegalOp) ∧
      r.results.cOut.all (celsiusFits s.params.cw) = true ∧ t = { s with response := some r }) ∨
    (isGated i = true ∧ s.handle = none ∧ t = s.raise .notInit 0) ∨
    (∃ a2 a1 a0 res, i = .init a2 a1 a0 res ∧ t = initRun (initHandle a2 a1 a0 res) s) ∨
    (∃ h p, s.handle = some h ∧ i = .rdtemp p ∧ t = rdtempRun p h s) ∨
    (∃ h x y z, s.handle = some h ∧ i = .therm x y z ∧ thermGate s.params x y ≠ 0 ∧
      t = s.raise .validation (thermGate s.params x y)) ∨
    (∃ h x y z, s.handle = some h ∧ i = .therm x y z ∧ thermGate s.params x y = 0 ∧
      t = thermWrites x y z h s) ∨
    (∃ h x, s.handle = some h ∧ i = .setcfg x ∧ t = writeConfig h x x 0 s) ∨
    (∃ h x, s.handle = some h ∧ i = .cmd x ∧ t = cmdRun x h s) := by
  by_cases hp : isPure i = true ∨ isReserved i = true
  · obtain ⟨r, a, b, f, c⟩ := exec_of_pure_or_reserved i hp s.params
    rw [c s rfl] at h
    cases h
    exact .inl ⟨hp, r, a, b, f, rfl⟩
  cases i <;> simp [isPure, isReserved] at hp
  case init a2 a1 a0 res =>
    cases h
    exact .inr (.inr (.inl ⟨_, _, _, _, rfl, rfl⟩))
  case rdtemp p =>
    cases h
    rcases State.whenInit_cases s (fun h => rdtempRun p h s) with ⟨e, f⟩ | ⟨h, e, f⟩
    · exact .inr (.inl ⟨rfl, e, f⟩)
    · exact .inr (.inr (.inr (.inl ⟨h, p, e, rfl, f⟩)))
  case therm x y z =>
    cases h
    rcases State.whenInit_cases s (fun h => thermRun x y z h s) with ⟨e, f⟩ | ⟨h, e, f⟩
    · exact .inr (.inl ⟨rfl, e, f⟩)
    · rcases thermRun_cases s x y z h with ⟨a, b⟩ | ⟨a, b⟩
      · exact .inr (.inr (.inr (.inr (.inr (.inl ⟨h, x, y, z, e, rfl, a, f.trans b⟩)))))
      · exact .inr (.inr (.inr (.inr (.inl ⟨h, x, y, z, e, rfl, a, f.trans b⟩))))
  case setcfg x =>
    cases h
    rcases State.whenInit_cases s (fun h => writeConfig h x x 0 s) with ⟨e, f⟩ | ⟨h, e, f⟩
    · exact .inr (.inl ⟨rfl, e, f⟩)
    · exact .inr (.inr (.inr (.inr (.inr (.inr (.inl ⟨h, x, e, rfl, f⟩))))))
  case cmd x =>
    cases h
    rcases State.whenInit_cases s (fun h => cmdRun x h s) with ⟨e, f⟩ | ⟨h, e, f⟩
    · exact .inr (.inl ⟨rfl, e, f⟩)
    · exact .inr (.inr (.inr (.inr (.inr (.inr (.inr ⟨h, x, e, rfl, f⟩))))))

end Sys2Proof.Machine
end

