-- ==== Sys2Proof/Laws/PerInstr.lean ====
section
/-! SUPPORT. Per instruction: its request decodes to it, drives no port it does not name (R50, R52), and fits its
ports exactly where the instruction is well-formed (R54). -/

namespace Sys2Proof

theorem Resolution.ofCode_code (r : Resolution) : Resolution.ofCode r.code = r := by
  cases r <;> decide

theorem FaultTolerance.ofCode_code (f : FaultTolerance) : FaultTolerance.ofCode f.code = f := by
  cases f <;> decide

theorem Pointer.ofCode_code (p : Pointer) : Pointer.ofCode p.code = p := by
  cases p <;> decide

@[simp] theorem celsiusFits_zero (cw : Nat) : celsiusFits cw 0 = true := by
  simp [celsiusFits]

end Sys2Proof

namespace Sys2Proof.Laws.RequestForm

/-- The request of an instruction decodes to the instruction, is canonical, and fits the ports of every width for
which the instruction is well-formed. -/
def Statement (i : Instr) : Prop :=
  decodeInstr (encodeInstr i) = i ∧ (encodeInstr i).canonical = true ∧
    ∀ cw, (encodeInstr i).fits cw = i.wellFormed cw

theorem decode (high low : Byte) : Statement (.decode high low) := ⟨rfl, by
  simp [encodeInstr, Request.canonical, Request.unnamedPorts, Request.zero],
  fun _ => by simp [encodeInstr, Request.fits, Request.zero, Instr.wellFormed]⟩

theorem encode (c : Celsius) : Statement (.encode c) := ⟨rfl, by
  simp [encodeInstr, Request.canonical, Request.unnamedPorts, Request.zero],
  fun _ => by simp [encodeInstr, Request.fits, Request.zero, Instr.wellFormed]⟩

theorem resmux (res : Resolution) (low : Byte) : Statement (.resmux res low) :=
  ⟨by simp [encodeInstr, decodeInstr, Resolution.ofCode_code],
   by simp [encodeInstr, Request.canonical, Request.unnamedPorts, Request.zero],
   fun _ => by simp [encodeInstr, Request.fits, Request.zero, Instr.wellFormed]⟩

theorem cfgpack (nvb : Bit) (res : Resolution) (ft : FaultTolerance) (pol tm sd : Bit) :
    Statement (.cfgpack nvb res ft pol tm sd) :=
  ⟨by simp [encodeInstr, decodeInstr, Resolution.ofCode_code, FaultTolerance.ofCode_code],
   by simp [encodeInstr, Request.canonical, Request.unnamedPorts, Request.zero],
   fun _ => by simp [encodeInstr, Request.fits, Request.zero, Instr.wellFormed]⟩

theorem cfgunpack (byte : Byte) : Statement (.cfgunpack byte) := ⟨rfl, by
  simp [encodeInstr, Request.canonical, Request.unnamedPorts, Request.zero],
  fun _ => by simp [encodeInstr, Request.fits, Request.zero, Instr.wellFormed]⟩

theorem busaddr (a2 a1 a0 : Bit) : Statement (.busaddr a2 a1 a0) := ⟨rfl, by
  simp [encodeInstr, Request.canonical, Request.unnamedPorts, Request.zero],
  fun _ => by simp [encodeInstr, Request.fits, Request.zero, Instr.wellFormed]⟩

theorem init (a2 a1 a0 : Bit) (res : Resolution) : Statement (.init a2 a1 a0 res) :=
  ⟨by simp [encodeInstr, decodeInstr, Resolution.ofCode_code],
   by simp [encodeInstr, Request.canonical, Request.unnamedPorts, Request.zero],
   fun _ => by simp [encodeInstr, Request.fits, Request.zero, Instr.wellFormed]⟩

theorem rdtemp (ptr : Pointer) : Statement (.rdtemp ptr) :=
  ⟨by simp [encodeInstr, decodeInstr, Pointer.ofCode_code],
   by simp [encodeInstr, Request.canonical, Request.unnamedPorts, Request.zero],
   fun _ => by simp [encodeInstr, Request.fits, Request.zero, Instr.wellFormed]⟩

theorem therm (trip hyst : Celsius) (ft : FaultTolerance) : Statement (.therm trip hyst ft) :=
  ⟨by simp [encodeInstr, decodeInstr, FaultTolerance.ofCode_code],
   by simp [encodeInstr, Request.canonical, Request.unnamedPorts, Request.zero],
   fun _ => by simp [encodeInstr, Request.fits, Request.zero, Instr.wellFormed]⟩

theorem setcfg (byte : Byte) : Statement (.setcfg byte) := ⟨rfl, by
  simp [encodeInstr, Request.canonical, Request.unnamedPorts, Request.zero],
  fun _ => by simp [encodeInstr, Request.fits, Request.zero, Instr.wellFormed]⟩

theorem cmd (byte : Byte) : Statement (.cmd byte) := ⟨rfl, by
  simp [encodeInstr, Request.canonical, Request.unnamedPorts, Request.zero],
  fun _ => by simp [encodeInstr, Request.fits, Request.zero, Instr.wellFormed]⟩

theorem reserved0 : Statement .reserved0 := ⟨rfl, by decide,
  fun _ => by simp [encodeInstr, Request.fits, Request.zero, Instr.wellFormed]⟩

theorem reservedC : Statement .reservedC := ⟨rfl, by decide,
  fun _ => by simp [encodeInstr, Request.fits, Request.zero, Instr.wellFormed]⟩

theorem reservedD : Statement .reservedD := ⟨rfl, by decide,
  fun _ => by simp [encodeInstr, Request.fits, Request.zero, Instr.wellFormed]⟩

theorem reservedE : Statement .reservedE := ⟨rfl, by decide,
  fun _ => by simp [encodeInstr, Request.fits, Request.zero, Instr.wellFormed]⟩

theorem reservedF : Statement .reservedF := ⟨rfl, by decide,
  fun _ => by simp [encodeInstr, Request.fits, Request.zero, Instr.wellFormed]⟩

end Sys2Proof.Laws.RequestForm
end

