-- ==== Sys2Proof/Laws/Safety.lean ====
section
/-! SUPPORT. How the predicates on histories behave when one more event is added at the end. -/

namespace Sys2Proof.Machine

/-- A CONFIG write is the newest one; any other event leaves the newest one as it was. -/
theorem lastConfigByte_append (l l' : List Event) :
    lastConfigByte (l ++ l') = (lastConfigByte l').or (lastConfigByte l) := by
  induction l with
  | nil => simp [lastConfigByte]
  | cons a l ih => rw [List.cons_append, lastConfigByte, ih, lastConfigByte, Option.or_assoc]

/-- The order of two histories in a row: the first one's own, and the second one's after the first one's last event. -/
theorem ordered_append (prev : Option Event) (l l' : List Event) :
    ordered prev (l ++ l') = (ordered prev l && ordered ((l.getLast?).or prev) l') := by
  induction l generalizing prev with
  | nil => simp [ordered]
  | cons a l ih =>
    rw [List.cons_append, ordered, ih, ordered, Bool.and_assoc]
    cases l with
    | nil => simp
    | cons b l => simp [List.getLast?_eq_some_getLast]

end Sys2Proof.Machine
end

