-- ==== Sys2Proof/Tests/Slice0.lean ====
section
/-! SUPPORT. Tests, with expected values from spec/95_test_vectors.md (S, V, P) or worked out by hand from the cited
rule; and for each statement with hypotheses a state and operands that meet them all. -/

-- One theorem after another: the package is checked as one text, with a bounded number of threads.
set_option Elab.async false

open Sys2Proof Sys2Proof.Machine

namespace Sys2Proof.Tests

/-! ## Small states and what a test looks at -/

/-- An initialised block with the given address and cache, whose next events get the given outcomes. -/
def ready (addr : BusAddr) (cache : Byte) (writes : List Config.WriteOutcome) (reads : List Config.ReadOutcome) :
    State :=
  { State.reset with
    handle := some { busAddr := addr, cfgCache := cache }, writeAnswers := writes, readAnswers := reads }

/-- The block right after reset, whose next write events get the given outcomes. -/
def fresh (writes : List Config.WriteOutcome) : State :=
  { State.reset with writeAnswers := writes }

/-- The same block at other widths (R4). -/
def widths (cw fw : Nat) (s : State) : State :=
  { s with params := { cw := cw, fw := fw } }

/-- The state a step or an operation ends in. -/
def stateOf : Host.Outcome State Fault Refusal → Option State
  | .next t => some t
  | _ => none

/-- The response of that state. -/
def responseOf (o : Host.Outcome State Fault Refusal) : Option Response :=
  (stateOf o).bind State.response

/-- Its results. -/
def resultsOf (o : Host.Outcome State Fault Refusal) : Option Results :=
  (responseOf o).map Response.results

/-- Its status and `info`. -/
def answerOf (o : Host.Outcome State Fault Refusal) : Option (Status × BitVec 3) :=
  (responseOf o).map fun r => (r.status, r.info)

/-- Its handle and its history. -/
def blockOf (o : Host.Outcome State Fault Refusal) : Option (Option Handle × List Event) :=
  (stateOf o).map fun t => (t.handle, t.history)

/-! ## Well-formedness: one ill-formed term for each check -/

/-- R4: FW >= 4. -/
theorem test_params_refuse_small_fraction : paramsWellFormed 32 3 = false := by decide
/-- R4: CW >= FW + 9. -/
theorem test_params_refuse_narrow_port : paramsWellFormed 28 20 = false := by decide
/-- R4: the defaults, and the smallest legal pair. -/
theorem test_params_accept : paramsWellFormed 32 20 = true ∧ paramsWellFormed 13 4 = true := by decide

/-- R54: a pattern of 33 bits on a 32-bit Celsius port, at each of the three ports; and the widest pattern. -/
theorem test_well_formed_refuses_a_wide_pattern :
    Instr.wellFormed 32 (.encode (2 ^ 32)) = false ∧ Instr.wellFormed 32 (.therm (2 ^ 32) 0 .ft1) = false ∧
    Instr.wellFormed 32 (.therm 0 (2 ^ 32) .ft1) = false ∧ Instr.wellFormed 32 (.encode 0xFFFFFFFF) = true := by
  decide +kernel

/-- R54: the same of a request's three Celsius ports. -/
theorem test_fits_refuses_a_wide_pattern :
    ({ Request.zero with c := 2 ^ 32 }).fits 32 = false ∧ ({ Request.zero with trip := 2 ^ 32 }).fits 32 = false ∧
    ({ Request.zero with hyst := 2 ^ 32 }).fits 32 = false ∧ ({ Request.zero with hyst := 2 ^ 32 }).fits 33 = true := by
  decide +kernel

/-- R50, R52: for each operation code, a request that drives one port its operation does not name. -/
theorem test_canonical_refuses_a_stray_port :
    ({ Request.zero with op := 0x0, byte := 1 }).canonical = false ∧
    ({ Request.zero with op := 0x1, c := 1 }).canonical = false ∧
    ({ Request.zero with op := 0x2, high := 1 }).canonical = false ∧
    ({ Request.zero with op := 0x3, ft := 1 }).canonical = false ∧
    ({ Request.zero with op := 0x4, byte := 1 }).canonical = false ∧
    ({ Request.zero with op := 0x5, nvb := 1 }).canonical = false ∧
    ({ Request.zero with op := 0x6, res := 1 }).canonical = false ∧
    ({ Request.zero with op := 0x7, ft := 1 }).canonical = false ∧
    ({ Request.zero with op := 0x8, res := 1 }).canonical = false ∧
    ({ Request.zero with op := 0x9, c := 1 }).canonical = false ∧
    ({ Request.zero with op := 0xA, ptr := 1 }).canonical = false ∧
    ({ Request.zero with op := 0xB, low := 1 }).canonical = false ∧
    ({ Request.zero with op := 0xC, a0 := 1 }).canonical = false ∧
    ({ Request.zero with op := 0xD, sd := 1 }).canonical = false ∧
    ({ Request.zero with op := 0xE, trip := 1 }).canonical = false ∧
    ({ Request.zero with op := 0xF, hyst := 1 }).canonical = false := by
  decide +kernel

/-- R53: the all-zero request drives nothing. -/
theorem test_canonical_accepts_the_zero_request : Request.zero.canonical = true := by decide

/-! ## Decoding: words written out from R52, R54 and the image of log 6

An operand stands at its image bit: high 4, low 12, c 20, trip 52, hyst 84, res 116, ft 118, nvb 120, pol 121,
tm 122, sd 123, byte 124, a2 132, a1 133, a0 134, ptr 135. -/

/-- The codec: `DECODE 0x20, 0x80`; `ENCODE 32.45`; `RESMUX RES_10, 0xF0` (R67). -/
theorem test_decode_codec_words :
    decodeImage 32 (0x1 + 0x20 * 2 ^ 4 + 0x80 * 2 ^ 12) = .ok (.decode 0x20 0x80) ∧
    decodeImage 32 (0x2 + 0x02073333 * 2 ^ 20) = .ok (.encode 0x02073333) ∧
    decodeImage 32 (0x3 + 0xF0 * 2 ^ 12 + 1 * 2 ^ 116) = .ok (.resmux .res10 0xF0) := by
  decide +kernel

/-- The packer: `CFGPACK 1, RES_11, FT_4, 0, 1, 0` (every neighbour differs); `CFGUNPACK 0x78` (R67). -/
theorem test_decode_packer_words :
    decodeImage 32 (0x4 + 2 * 2 ^ 116 + 2 * 2 ^ 118 + 2 ^ 120 + 2 ^ 122) = .ok (.cfgpack 1 .res11 .ft4 0 1 0) ∧
    decodeImage 32 (0x4 + 1 * 2 ^ 116 + 3 * 2 ^ 118 + 2 ^ 121 + 2 ^ 123) = .ok (.cfgpack 0 .res10 .ft6 1 0 1) ∧
    decodeImage 32 (0x5 + 0x78 * 2 ^ 124) = .ok (.cfgunpack 0x78) := by
  decide +kernel

/-- The controller: `BUSADDR 1, 0, 0`; `INIT 0, 1, 1, RES_12`; `RDTEMP TRIP`; `THERM 32.45, 30.14, FT_6`;
`SETCFG 0x64`; `CMD POWER_ON_RESET`. -/
theorem test_decode_controller_words :
    decodeImage 32 (0x6 + 2 ^ 132) = .ok (.busaddr 1 0 0) ∧
    decodeImage 32 (0x7 + 3 * 2 ^ 116 + 2 ^ 133 + 2 ^ 134) = .ok (.init 0 1 1 .res12) ∧
    decodeImage 32 (0x8 + 3 * 2 ^ 135) = .ok (.rdtemp .trip) ∧
    decodeImage 32 (0x9 + 0x02073333 * 2 ^ 52 + 0x01E23D70 * 2 ^ 84 + 3 * 2 ^ 118) =
      .ok (.therm 0x02073333 0x01E23D70 .ft6) ∧
    decodeImage 32 (0xA + 0x64 * 2 ^ 124) = .ok (.setcfg 0x64) ∧
    decodeImage 32 (0xB + 0x54 * 2 ^ 124) = .ok (.cmd 0x54) := by
  decide +kernel

/-- The reserved codes (R53). -/
theorem test_decode_reserved_words :
    decodeImage 32 0x0 = .ok .reserved0 ∧ decodeImage 32 0xC = .ok .reservedC ∧ decodeImage 32 0xD = .ok .reservedD ∧
    decodeImage 32 0xE = .ok .reservedE ∧ decodeImage 32 0xF = .ok .reservedF := by
  decide +kernel

/-- Every row of spec/opcode_table.json, asked as the host asks it: the operation code alone, all else zero. -/
theorem test_decode_table_rows :
    ((List.range 16).map fun op => (decodeTableWord 8 op).map Instr.mnemonic) =
      [some "RESERVED_0", some "DECODE", some "ENCODE", some "RESMUX", some "CFGPACK", some "CFGUNPACK",
       some "BUSADDR", some "INIT", some "RDTEMP", some "THERM", some "SETCFG", some "CMD", some "RESERVED_C",
       some "RESERVED_D", some "RESERVED_E", some "RESERVED_F"] := by
  decide +kernel

/-- A number with a bit where no port is, is refused by name. -/
theorem test_decode_refuses_beyond_the_ports : decodeImage 32 (2 ^ 137) = .error .beyondThePorts := by decide +kernel

/-- The four codes of R56, R57 and R62. -/
theorem test_port_codes :
    [Resolution.res9, .res10, .res11, .res12].map bitsOf = [9, 10, 11, 12] ∧
    [FaultTolerance.ft1, .ft2, .ft4, .ft6].map readingsOf = [1, 2, 4, 6] ∧
    [Resolution.ofCode 0, .ofCode 1, .ofCode 2, .ofCode 3] = [.res9, .res10, .res11, .res12] ∧
    [FaultTolerance.ofCode 0, .ofCode 1, .ofCode 2, .ofCode 3] = [.ft1, .ft2, .ft4, .ft6] ∧
    [Pointer.temp, .config, .hyst, .trip].map pointerByte = [0x00, 0x01, 0x02, 0x03] := by
  decide

/-- R150: the six numbers of the status port. -/
theorem test_status_codes :
    [Status.ok, .illegalOp, .notInit, .badPointer, .validation, .transport].map statusCode = [0, 1, 2, 3, 4, 5] := by
  decide

/-! ## The codec -/

/-- V1: -10.5, not -9.5 and not two's complement. -/
theorem test_decode_negative_fraction :
    resultsOf (exec (.decode 0x8A 0x80) State.reset) = some { cOut := some 0xFF580000 } := by decide +kernel
/-- V1: the smallest value, with the low nibble set. -/
theorem test_decode_smallest :
    resultsOf (exec (.decode 0xFF 0xFF) State.reset) = some { cOut := some 0xF8010000 } := by decide +kernel
/-- S4, V2: 32.45. -/
theorem test_encode_source_example :
    resultsOf (exec (.encode 0x02073333) State.reset) = some { highOut := some 0x20, lowOut := some 0x70 } := by
  decide +kernel
/-- V2: just below -55.0; the test is on the un-quantised operand. -/
theorem test_encode_just_below :
    responseOf (exec (.encode 0xFC8FFFFF) State.reset) = some ⟨.validation, 0b001, Results.empty⟩ := by decide +kernel
/-- V2 on the codec's functions: -54.99 toward zero, -0.03 the negative zero, 0.49 not to the nearest, both bounds. -/
theorem test_encode_vectors :
    [-57661194, -31457, 513802, -57671680, 131072000].map (fun n => (encodeHigh 20 n, encodeLow 20 n)) =
      [(0xB6, 0xF0), (0x80, 0x00), (0x00, 0x70), (0xB7, 0x00), (0x7D, 0x00)] := by
  decide +kernel
/-- V4. -/
theorem test_resmux_11_bit :
    resultsOf (exec (.resmux .res11 0x50) State.reset) =
      some { nfrac := some 3, mask := some 0xE0, lowMasked := some 0x40 } := by decide +kernel
/-- V4: the low nibble is cleared at 12 bits. -/
theorem test_resmux_12_bit :
    resultsOf (exec (.resmux .res12 0x0F) State.reset) =
      some { nfrac := some 4, mask := some 0xF0, lowMasked := some 0x00 } := by decide +kernel

/-- R80, R84 at the narrowest legal widths, CW = 13 and FW = 4, by hand: -10.5 degrees is -168 sixteenths, pattern 0x1F58. -/
theorem test_narrow_widths :
    resultsOf (exec (.decode 0x8A 0x80) (widths 13 4 State.reset)) = some { cOut := some 0x1F58 } ∧
    resultsOf (exec (.encode 0x1F58) (widths 13 4 State.reset)) = some { highOut := some 0x8A, lowOut := some 0x80 } := by
  decide +kernel
/-- R52, R54 at CW = 13: the ports after the Celsius ports stand 57 bits lower than at CW = 32 (log 6). -/
theorem test_narrow_image :
    decodeImage 13 (0x9 + 0x1F58 * 2 ^ 20 * 2 ^ 13 + 0x0010 * 2 ^ 20 * 2 ^ 26 + 2 * 2 ^ 61) =
      .ok (.therm 0x1F58 0x0010 .ft4) := by decide +kernel

/-! ## The packer -/

/-- V5. -/
theorem test_cfgpack :
    resultsOf (exec (.cfgpack 1 .res12 .ft1 1 0 1) State.reset) = some { byteOut := some 0xE5 } := by decide +kernel
/-- V5: a middle fault tolerance between set neighbours. -/
theorem test_cfgpack_middle :
    resultsOf (exec (.cfgpack 0 .res10 .ft4 1 1 0) State.reset) = some { byteOut := some 0x36 } := by decide +kernel
/-- V5, the same row the other way. -/
theorem test_cfgunpack :
    resultsOf (exec (.cfgunpack 0x36) State.reset) =
      some { nvbOut := some 0, resOut := some .res10, ftOut := some .ft4, polOut := some 1, tmOut := some 1,
             sdOut := some 0 } := by decide +kernel
/-- V5: NVB is an ordinary field. -/
theorem test_cfgunpack_nvb :
    resultsOf (exec (.cfgunpack 0x80) State.reset) =
      some { nvbOut := some 1, resOut := some .res9, ftOut := some .ft1, polOut := some 0, tmOut := some 0,
             sdOut := some 0 } := by decide +kernel
/-- V5: WITH_FT and INIT_BYTE. -/
theorem test_with_ft_and_init_byte :
    withFt 0x7F .ft1 = 0x67 ∧ withFt 0x00 .ft6 = 0x18 ∧ withFt 0x45 .ft2 = 0x4D ∧
    [Resolution.res9, .res10, .res11, .res12].map initByte = [0x00, 0x20, 0x40, 0x60] := by decide +kernel

/-! ## The controller -/

/-- V6: with the source's misprint it would be 0x48. -/
theorem test_busaddr_middle_strap :
    resultsOf (exec (.busaddr 0 1 0) State.reset) = some { addrOut := some 0x4A } := by decide +kernel
/-- V8: INIT 1,1,1,RES_12. -/
theorem test_init :
    blockOf (exec (.init 1 1 1 .res12) (fresh [.ok])) = some (some ⟨0x4F, 0x60⟩, [.evW 0x4F [0x01, 0x60] .ok]) := by
  decide +kernel
/-- V8: INIT 1,0,1,RES_10 with a failed write: the state stands. -/
theorem test_init_failed :
    blockOf (exec (.init 1 0 1 .res10) (fresh [.fail])) = some (some ⟨0x4D, 0x20⟩, [.evW 0x4D [0x01, 0x20] .fail]) ∧
    responseOf (exec (.init 1 0 1 .res10) (fresh [.fail])) = some ⟨.transport, 0, Results.empty⟩ := by
  decide +kernel
/-- V8: RDTEMP HYST, bytes 0x8A, 0x80. -/
theorem test_rdtemp :
    resultsOf (exec (.rdtemp .hyst) (ready 0x48 0x60 [.ok] [.ok 0x8A 0x80])) = some { cOut := some 0xFF580000 } ∧
    blockOf (exec (.rdtemp .hyst) (ready 0x48 0x60 [.ok] [.ok 0x8A 0x80])) =
      some (some ⟨0x48, 0x60⟩, [.evW 0x48 [0x02] .ok, .evR 0x48 2 (.ok 0x8A 0x80)]) := by
  decide +kernel
/-- V7: before INIT the CONFIG pointer gives NOT_INIT, not BAD_POINTER (R152). -/
theorem test_rdtemp_priority :
    answerOf (exec (.rdtemp .config) State.reset) = some (.notInit, 0) := by decide +kernel
/-- V8: THERM 0.0, -0.03, FT_4 on the cache 0x67: order, negative zero, preserved fields. -/
theorem test_therm :
    blockOf (exec (.therm 0x00000000 0xFFFF851F .ft4) (ready 0x48 0x67 [.ok, .ok, .ok] [])) =
      some (some ⟨0x48, 0x77⟩,
        [.evW 0x48 [0x03, 0x00, 0x00] .ok, .evW 0x48 [0x02, 0x80, 0x00] .ok, .evW 0x48 [0x01, 0x77] .ok]) := by
  decide +kernel
/-- P4, step 4: the CONFIG write fails, and the cache keeps its new value. -/
theorem test_therm_last_write_fails :
    answerOf (exec (.therm 0x01900000 0x01900000 .ft1) (ready 0x48 0x78 [.ok, .ok, .fail] [])) =
      some (.transport, 2) ∧
    (blockOf (exec (.therm 0x01900000 0x01900000 .ft1) (ready 0x48 0x78 [.ok, .ok, .fail] []))).map Prod.fst =
      some (some ⟨0x48, 0x60⟩) := by
  decide +kernel
/-- V8: SETCFG 0xE5 transmits bit 7 and does not cache it. -/
theorem test_setcfg :
    blockOf (exec (.setcfg 0xE5) (ready 0x48 0x60 [.ok] [])) =
      some (some ⟨0x48, 0x65⟩, [.evW 0x48 [0x01, 0xE5] .ok]) := by decide +kernel
/-- V8: CMD COPY_TO_NVM, one byte and no pointer. -/
theorem test_cmd :
    blockOf (exec (.cmd copyToNvm) (ready 0x48 0x60 [.ok] [])) =
      some (some ⟨0x48, 0x60⟩, [.evW 0x48 [0x48] .ok]) := by decide +kernel
/-- V7: a reserved code after INIT. -/
theorem test_reserved :
    responseOf (exec .reservedE (ready 0x4F 0x4D [] [])) = some ⟨.illegalOp, 0, Results.empty⟩ ∧
    blockOf (exec .reservedE (ready 0x4F 0x4D [] [])) = some (some ⟨0x4F, 0x4D⟩, []) := by decide +kernel

/-! ## The step -/

/-- The host's question: the request placed by `withFetchWord` is the very next thing a step runs. -/
theorem test_step_runs_the_placed_request :
    resultsOf (step (State.reset.withFetchWord 137 (0x1 + 0x20 * 2 ^ 4 + 0x80 * 2 ^ 12))) =
      some { cOut := some 0x02080000 } := by decide +kernel
/-- R170: the reset event after INIT. -/
theorem test_step_reset :
    blockOf (step { ready 0x48 0x60 [] [] with inputs := [.reset] }) = some (none, []) := by decide +kernel
/-- R176: no step while a read blocks, and the reset ends it. -/
theorem test_step_blocked_read :
    step { ready 0x48 0x60 [] [] with inputs := [.request Request.zero], hung := true } = .fault .readNeverCompletes ∧
    (stateOf (step { ready 0x48 0x60 [] [] with inputs := [.reset], hung := true })).map State.hung = some false := by
  exact ⟨rfl, by decide +kernel⟩

/-! ## The wrappers (V9) -/

theorem test_c2f_f2c : c2f (-21 / 2) = 131 / 10 ∧ f2c (9041 / 100) = 649 / 20 := by norm_num [c2f, f2c]
theorem test_to_q : toQ 20 (649 / 20) = 34026291 ∧ toQ 20 (-3 / 100) = -31457 := by decide +kernel
theorem test_therm_d :
    thermD Config.defaults 0x02073333 = some (.therm 0x02073333 0x01B73333 .ft1) ∧
    thermD Config.defaults 0xFCC00000 = some (.therm 0xFCC00000 0xFC700000 .ft1) := by decide +kernel
theorem test_therm_fd : thermFD Config.defaults (9041 / 100) = some (.therm 0x02073333 0x01B73333 .ft1) := by decide +kernel
theorem test_rdtemp_f :
    (responseOf (exec (rdtempF .temp) (ready 0x48 0x60 [.ok] [.ok 0x20 0x80]))).bind (fahrenheitOf Config.defaults) =
      some (181 / 2) := by decide +kernel
theorem test_therm_f :
    thermF Config.defaults (9041 / 100) (-67) .ft6 = some (.therm 0x02073333 0xFC900000 .ft6) ∧
    thermDHyst 0x02073333 0x01E23D70 = .therm 0x02073333 0x01E23D70 .ft1 := by decide +kernel

/-! ## Witnesses: a state and operands that meet every hypothesis of each statement

A statement not named here has no hypothesis. Where a statement's clauses have hypotheses of their own, each clause
has its witness, at the end of its range where it has one. -/

/-- ImagesAndRequestsCorrespond: the greatest image. -/
theorem witness_images : 2 ^ 137 - 1 < 2 ^ imageWidth 32 := by decide +kernel

/-- ImageDecodesToItsInstruction, ImagesAndRequestsCorrespond: an instruction and a request at the widest pattern. -/
theorem witness_well_formed :
    Instr.wellFormed 32 (.therm 0xFFFFFFFF 0xFFFFFFFF .ft6) = true ∧
    (encodeInstr (.therm 0xFFFFFFFF 0xFFFFFFFF .ft6)).fits 32 = true := by decide +kernel

/-- The premise on the parameters, wherever a statement has it: every state built by `ready` or `fresh` has the default
widths, and another legal pair. -/
theorem witness_legal_widths :
    (ready 0x48 0x60 [] []).params.Legal ∧ (fresh []).params.Legal ∧ (widths 13 4 State.reset).params.Legal := by
  decide +kernel

/-- PureOperationsWriteTheResponseOnly: a state of the given parameters. -/
theorem witness_params_of_a_state : (widths 13 4 State.reset).params = { cw := 13, fw := 4 } := rfl

/-- CanonicalRequestIsEncodedInstruction. -/
theorem witness_canonical :
    ({ Request.zero with op := 0x7, a2 := 1, a0 := 1, res := 3 }).canonical = true := by decide +kernel

/-- UnnamedPortsAreIgnored, StepRunsThePresentedRequest: a DECODE that drives the port `byte` too. -/
theorem witness_presented :
    let s := { fresh [] with inputs := [.request { Request.zero with op := 0x1, high := 0x20, byte := 0xFF }] }
    s.hung = false ∧ s.inputs = [.request { Request.zero with op := 0x1, high := 0x20, byte := 0xFF }] :=
  ⟨rfl, rfl⟩

/-- ReservedCodesAnswerIllegalOp, first clause, the five codes; second clause. -/
theorem witness_reserved_codes :
    (∀ op ∈ [(0x0 : BitVec 4), 0xC, 0xD, 0xE, 0xF],
      let r : Request := { Request.zero with op := op, byte := 0x54 }
      let s := { fresh [] with inputs := [.request r] }
      s.hung = false ∧ s.inputs = [.request r] ∧
        (r.op = 0x0 ∨ r.op = 0xC ∨ r.op = 0xD ∨ r.op = 0xE ∨ r.op = 0xF)) ∧
    isReserved (decodeInstr { Request.zero with op := 0xF }) = true := by
  decide +kernel

/-- BlockWaitsForARequest. -/
theorem witness_waits : State.reset.hung = false ∧ State.reset.inputs = [] := ⟨rfl, rfl⟩

/-- ResetEventClearsTheBlock: also while a read blocks. -/
theorem witness_reset_event :
    ({ ready 0x48 0x60 [] [] with inputs := [.reset, .reset], hung := true }).inputs = .reset :: [.reset] := rfl

/-- StepStopsExactlyWhileAReadBlocks: a state on each side. -/
theorem witness_step_stops :
    (let s : State := { State.reset with hung := true }
     s.hung = true ∧ ∀ rest, s.inputs ≠ .reset :: rest) ∧
    ¬(State.reset.hung = true ∧ ∀ rest, State.reset.inputs ≠ .reset :: rest) :=
  ⟨⟨rfl, by simp [State.reset]⟩, by simp [State.reset]⟩

/-- DecodedValueFitsEveryLegalPort, SignAppliesToTheWholeMagnitude, MaskedDecodeTruncatesToTheStep: the narrowest legal
port and the default one. -/
theorem witness_params : paramsWellFormed 13 4 = true ∧ paramsWellFormed 32 20 = true := by decide +kernel

/-- DecodeIsInjectiveUpToTheLowNibble, second clause: two different pairs next to the excluded one. -/
theorem witness_injective :
    (0x10 : Byte) &&& 0x0F = 0 ∧ (0x00 : Byte) &&& 0x0F = 0 ∧ ¬((0x80 : Byte) = 0x80 ∧ (0x10 : Byte) = 0x00) ∧
    ¬((0x00 : Byte) = 0x80 ∧ (0x00 : Byte) = 0x00) := by decide +kernel

/-- DecodeIsInjectiveUpToTheLowNibble, second clause with its last hypothesis: a pair with itself. -/
theorem witness_injective_equal :
    paramsWellFormed 32 20 = true ∧ (0x10 : Byte) &&& 0x0F = 0 ∧ ¬((0x80 : Byte) = 0x80 ∧ (0x10 : Byte) = 0x00) ∧
    decodeValue 32 20 0x80 0x10 = decodeValue 32 20 0x80 0x10 := by decide +kernel

/-- EncodeAnswersSignMagnitudeBytes, EncodeChecksTheRange: both bounds. -/
theorem witness_encode_bounds :
    -55 * 2 ^ 20 ≤ sintOf 32 0xFC900000 ∧ sintOf 32 0xFC900000 ≤ 125 * 2 ^ 20 ∧
    -55 * 2 ^ 20 ≤ sintOf 32 0x07D00000 ∧ sintOf 32 0x07D00000 ≤ 125 * 2 ^ 20 := by
  decide +kernel

/-- EncodeChecksTheRange, third clause: one step outside each bound. -/
theorem witness_encode_out_of_range :
    ¬(-55 * 2 ^ 20 ≤ sintOf 32 0xFC8FFFFF ∧ sintOf 32 0xFC8FFFFF ≤ 125 * 2 ^ 20) ∧
    ¬(-55 * 2 ^ 20 ≤ sintOf 32 0x07D00001 ∧ sintOf 32 0x07D00001 ≤ 125 * 2 ^ 20) := by
  decide +kernel

/-- GreedyLoopIsBinaryExpansion, EncodeThenDecodeTruncatesTowardZero: the lower bound, the upper bound, and one step
above the lower bound. -/
theorem witness_greedy :
    paramsWellFormed 32 20 = true ∧ 4 ≤ 20 ∧
    (-55 * 2 ^ 20 ≤ (-57671680 : Int) ∧ (-57671680 : Int) ≤ 125 * 2 ^ 20) ∧
    (-55 * 2 ^ 20 ≤ (131072000 : Int) ∧ (131072000 : Int) ≤ 125 * 2 ^ 20) ∧
    (-55 * 2 ^ 20 ≤ (-57671679 : Int) ∧ (-57671679 : Int) ≤ 125 * 2 ^ 20) := by decide +kernel

/-- DecodeThenEncodeRestoresTheBytes, second clause: both ends of both signs (V3), and the negative zero. -/
theorem witness_decode_in_range :
    paramsWellFormed 32 20 = true ∧ inRange 20 (decodeValue 32 20 0x7D 0x0F).toInt = true ∧
    inRange 20 (decodeValue 32 20 0xB7 0x0F).toInt = true ∧ inRange 20 (decodeValue 32 20 0x00 0x00).toInt = true ∧
    inRange 20 (decodeValue 32 20 0x80 0x0F).toInt = true := by decide +kernel

/-- DecodeThenEncodeRestoresTheBytes, first clause: the first pairs outside (V3). -/
theorem witness_decode_out_of_range :
    inRange 20 (decodeValue 32 20 0x7D 0x10).toInt = false ∧ inRange 20 (decodeValue 32 20 0xB7 0x10).toInt = false := by
  decide +kernel

/-- WithFtReplacesOneField, third clause. -/
theorem witness_cache_byte : (0x7F : Byte) &&& 0x80 = 0 := by decide +kernel

/-- GatedOperationsNeedInit, first clause: the four operations right after reset. -/
theorem witness_gated :
    ∀ i ∈ [Instr.rdtemp .config, .therm 0 0 .ft1, .setcfg 0x60, .cmd 0x54],
      isGated i = true ∧ State.reset.initDone = false := by decide +kernel

/-- GatedOperationsNeedInit, second clause: a NOT_INIT answer. -/
theorem witness_not_init :
    ∃ t r, exec (.cmd 0x54) State.reset = .next t ∧ t.response = some r ∧ r.status = .notInit :=
  ⟨_, _, rfl, rfl, rfl⟩

/-- InitCreatesTheHandle, and InitWithFailedWriteStands. -/
theorem witness_init : (fresh [.ok]).writeOutcome 0 = .ok ∧ (fresh [.fail]).writeOutcome 0 = .fail := ⟨rfl, rfl⟩

/-- RdtempAnswersTheDecodedBytes, RdtempFahrenheitIsExact (first clause). -/
theorem witness_rdtemp :
    let s := ready 0x48 0x60 [.ok] [.ok 0x20 0x80]
    s.handle = some ⟨0x48, 0x60⟩ ∧ Pointer.temp ≠ .config ∧ s.writeOutcome 0 = .ok ∧ s.readOutcome 0 = .ok 0x20 0x80 ∧
      ∃ t, exec (rdtempF .temp) s = .next t :=
  ⟨rfl, by decide +kernel, rfl, rfl, _, rfl⟩

/-- RdtempRefusesTheConfigPointer, ResolutionEntersNoReading, NoAnswerDependsOnTheCache; SetcfgTransmitsAndCaches and
CmdTransmitsAnyCode (the two clauses of each). -/
theorem witness_initialised :
    (ready 0x48 0x60 [.ok] []).handle = some ⟨0x48, 0x60⟩ ∧ (ready 0x48 0x60 [.ok] []).writeOutcome 0 = .ok ∧
    (ready 0x48 0x60 [.fail] []).handle = some ⟨0x48, 0x60⟩ ∧ (ready 0x48 0x60 [.fail] []).writeOutcome 0 = .fail :=
  ⟨rfl, rfl, rfl, rfl⟩

/-- RdtempPropagatesFailure: the pointer write fails; the read fails. -/
theorem witness_rdtemp_failure :
    let s := ready 0x48 0x60 [.fail] []
    let t := ready 0x48 0x60 [.ok] [.fail]
    s.handle = some ⟨0x48, 0x60⟩ ∧ t.handle = some ⟨0x48, 0x60⟩ ∧ Pointer.trip ≠ .config ∧
      s.writeOutcome 0 = .fail ∧ t.writeOutcome 0 = .ok ∧ t.readOutcome 0 = .fail :=
  ⟨rfl, rfl, by decide +kernel, rfl, rfl, rfl⟩

/-- BlockedReadNeverAnswers, its last clause included: nothing is presented behind the RDTEMP. -/
theorem witness_blocked_read :
    let s := ready 0x48 0x60 [.ok] [.never]
    s.handle = some ⟨0x48, 0x60⟩ ∧ Pointer.hyst ≠ .config ∧ s.writeOutcome 0 = .ok ∧ s.readOutcome 0 = .never ∧
      ∀ rest, s.inputs ≠ .reset :: rest :=
  ⟨rfl, by decide +kernel, rfl, rfl, by simp [ready, State.reset]⟩

/-- ThermRefusesInvalidSetpoints: each of its five cases alone, one step outside a bound or out of order (R124). -/
theorem witness_therm_refused :
    (ready 0x48 0x60 [] []).handle = some ⟨0x48, 0x60⟩ ∧
    sintOf 32 0xFC8FFFFF < -55 * 2 ^ 20 ∧ 125 * 2 ^ 20 < sintOf 32 0x07D00001 ∧
    sintOf 32 0x01E028F5 < sintOf 32 0x01E051EB := by decide +kernel

/-- ThermWritesSetpointsAndConfiguration: the setpoints at the two bounds, and equal. -/
theorem witness_therm :
    let s := ready 0x48 0x60 [.ok, .ok, .ok] []
    s.handle = some ⟨0x48, 0x60⟩ ∧ s.writeOutcome 0 = .ok ∧ s.writeOutcome 1 = .ok ∧ s.writeOutcome 2 = .ok ∧
    -55 * 2 ^ 20 ≤ sintOf 32 0xFC900000 ∧
    sintOf 32 0xFC900000 ≤ sintOf 32 0x07D00000 ∧
    sintOf 32 0x07D00000 ≤ 125 * 2 ^ 20 ∧
    sintOf 32 0xFC900000 ≤ sintOf 32 0xFC900000 ∧
    sintOf 32 0xFC900000 ≤ 125 * 2 ^ 20 := by
  refine ⟨rfl, rfl, rfl, rfl, ?_⟩
  decide +kernel

/-- ThermStopsAtTheFirstFailure: its three clauses, with the setpoints of `witness_therm`. -/
theorem witness_therm_failure :
    (ready 0x48 0x60 [.fail] []).writeOutcome 0 = .fail ∧
    (let s := ready 0x48 0x60 [.ok, .fail] []
     s.writeOutcome 0 = .ok ∧ s.writeOutcome 1 = .fail) ∧
    (let s := ready 0x48 0x60 [.ok, .ok, .fail] []
     s.writeOutcome 0 = .ok ∧ s.writeOutcome 1 = .ok ∧ s.writeOutcome 2 = .fail) :=
  ⟨rfl, ⟨rfl, rfl⟩, ⟨rfl, rfl, rfl⟩⟩

/-- ThermPreservesTheOtherFields: every field set, and THERM ends with OK. -/
theorem witness_therm_fields :
    let s := ready 0x48 0x7F [.ok, .ok, .ok] []
    s.handle = some ⟨0x48, 0x7F⟩ ∧ CacheLegal 0x7F ∧
      ∃ t, exec (.therm 0x01900000 0x01900000 .ft1) s = .next t ∧ t.response.map Response.status = some .ok :=
  ⟨rfl, by decide +kernel, _, rfl, by decide +kernel⟩

/-- ReservedInstructionsAnswerIllegalOp, PureOperationsWriteTheResponseOnly. -/
theorem witness_kinds :
    (∀ i ∈ [Instr.reserved0, .reservedC, .reservedD, .reservedE, .reservedF],
      i = .reserved0 ∨ i = .reservedC ∨ i = .reservedD ∨ i = .reservedE ∨ i = .reservedF) ∧
    (∀ i ∈ [Instr.decode 0 0, .encode 0, .resmux .res9 0, .cfgpack 0 .res9 .ft1 0 0 0, .cfgunpack 0, .busaddr 0 0 0,
        .reserved0, .reservedC, .reservedD, .reservedE, .reservedF],
      isPure i = true ∨ isReserved i = true) := by decide +kernel

/-- RdtempAndCmdLeaveTheHandle, OnlyTheControllerWritesTheHandle, StatusIsNotSticky: operations that end in a next
state, of the two kinds. -/
theorem witness_rdtemp_and_cmd :
    (∃ t, exec (.rdtemp .temp) (ready 0x48 0x60 [.ok] [.ok 0x20 0x80]) = .next t) ∧
    (∃ t, exec (.cmd 0xB8) (ready 0x48 0x60 [.ok] []) = .next t) :=
  ⟨⟨_, rfl⟩, ⟨_, rfl⟩⟩

/-- ConfigurationOperationsFrame, OnlyTheControllerWritesTheHandle: the three writers change the handle, INIT the
address too, and the handle is there before and after. -/
theorem witness_writers :
    (∃ t, exec (.init 1 1 1 .res9) (ready 0x48 0x60 [.ok] []) = .next t ∧
      t.handle.map Handle.busAddr ≠ (ready 0x48 0x60 [.ok] []).handle.map Handle.busAddr) ∧
    (∃ t, exec (.therm 0x01900000 0x01900000 .ft6) (ready 0x48 0x60 [.ok, .ok, .ok] []) = .next t ∧
      t.handle ≠ (ready 0x48 0x60 [.ok, .ok, .ok] []).handle) ∧
    (∃ t, exec (.setcfg 0x00) (ready 0x48 0x60 [.ok] []) = .next t ∧
      t.handle ≠ (ready 0x48 0x60 [.ok] []).handle ∧ (ready 0x48 0x60 [.ok] []).initDone = true) :=
  ⟨⟨_, rfl, by decide +kernel⟩, ⟨_, rfl, by decide +kernel⟩, ⟨_, rfl, by decide +kernel, by decide +kernel⟩⟩

/-- RefusalsTouchNothing: the four statuses. -/
theorem witness_refusals :
    (∃ t r, exec .reserved0 State.reset = .next t ∧ t.response = some r ∧ r.status.refuses = true) ∧
    (∃ t r, exec (.cmd 0) State.reset = .next t ∧ t.response = some r ∧ r.status.refuses = true) ∧
    (∃ t r, exec (.rdtemp .config) (ready 0x48 0 [] []) = .next t ∧ t.response = some r ∧ r.status.refuses = true) ∧
    (∃ t, exec (.encode 0x08200000) State.reset = .next t ∧ t.response = some ⟨.validation, 1, Results.empty⟩ ∧
      Status.validation.refuses = true) :=
  ⟨⟨_, _, rfl, rfl, rfl⟩, ⟨_, _, rfl, rfl, rfl⟩, ⟨_, _, rfl, rfl, rfl⟩, ⟨_, rfl, by decide +kernel, rfl⟩⟩

/-- EveryResponseIsLegal, OperationsStopAtTheirFirstFailedEvent: an operation that ends with OK, one that ends with
TRANSPORT, one that blocks. -/
theorem witness_answers :
    (∃ t r, exec (.cmd 0) (ready 0x48 0 [.ok] []) = .next t ∧ t.response = some r ∧ r.status = .ok) ∧
    (∃ t r, exec (.cmd 0) (ready 0x48 0 [.fail] []) = .next t ∧ t.response = some r ∧ r.status = .transport) ∧
    (∃ t, exec (.rdtemp .temp) (ready 0x48 0 [.ok] [.never]) = .next t ∧ t.response = none) :=
  ⟨⟨_, _, rfl, rfl, rfl⟩, ⟨_, _, rfl, rfl, rfl⟩, ⟨_, rfl, rfl⟩⟩

/-- A block as one INIT leaves it, about to take the request `r`. -/
def initialised (r : Request) : State :=
  { ready 0x48 0x60 [.ok, .ok] [.ok 0x20 0x80] with
    history := [.evW 0x48 [0x01, 0x60] .ok], writeDraws := 1, inputs := [.request r] }

/-- EveryStepKeepsSound, EveryStepKeepsTheCacheTheLastWrite, EveryStepKeepsTheParameters: a state that meets both invariants and takes an RDTEMP. -/
theorem witness_invariants :
    (initialised { Request.zero with op := 0x8 }).Sound ∧
    (initialised { Request.zero with op := 0x8 }).CacheIsLastWrite ∧
    ∃ t, step (initialised { Request.zero with op := 0x8 }) = .next t := by
  refine ⟨⟨?_, by decide +kernel, by decide +kernel, by decide +kernel, ?_, by decide +kernel⟩, ?_, _, rfl⟩
  · intro h e
    cases e
    decide +kernel
  · intro h e eh ee
    cases eh
    cases ee
    rfl
  · intro h e
    cases e
    decide +kernel

/-- ThermAfterCommandWritesTheOldCache: P5, steps 5 and 6. -/
theorem witness_stale_cache :
    let s := ready 0x4F 0x45 [.ok, .ok, .ok, .ok] []
    s.handle = some ⟨0x4F, 0x45⟩ ∧ ∃ t u, exec (.cmd powerOnReset) s = .next t ∧
      exec (.therm 0x01E00000 0x01900000 .ft2) t = .next u ∧ u.response.map Response.status = some .ok ∧
      lastConfigByte u.history = some 0x4D :=
  ⟨rfl, _, _, rfl, rfl, by decide +kernel, by decide +kernel⟩

/-- ToQTruncatesTowardZero: both sides of zero, and zero on both. -/
theorem witness_to_q : (0 : Rat) ≤ 3 / 100 ∧ (-3 / 100 : Rat) ≤ 0 ∧ toQ 20 0 = 0 := by
  refine ⟨by norm_num, by norm_num, by decide +kernel⟩

/-- ThermDefaultNeedsFiftyBelowZero: -55.0 and -50.0 - 2^-20 in the refused clause, -50.0 and 125.0 in the other. -/
theorem witness_therm_default :
    (ready 0x48 0x60 [] []).handle = some ⟨0x48, 0x60⟩ ∧
    -55 * 2 ^ 20 ≤ sintOf 32 0xFC900000 ∧ sintOf 32 0xFC900000 ≤ 125 * 2 ^ 20 ∧
    sintOf 32 0xFC900000 < -50 * 2 ^ 20 ∧
    -55 * 2 ^ 20 ≤ sintOf 32 0xFCDFFFFF ∧ sintOf 32 0xFCDFFFFF ≤ 125 * 2 ^ 20 ∧
    sintOf 32 0xFCDFFFFF < -50 * 2 ^ 20 ∧
    -55 * 2 ^ 20 ≤ sintOf 32 0xFCE00000 ∧ sintOf 32 0xFCE00000 ≤ 125 * 2 ^ 20 ∧
    -50 * 2 ^ 20 ≤ sintOf 32 0xFCE00000 ∧
    -55 * 2 ^ 20 ≤ sintOf 32 0x07D00000 ∧ sintOf 32 0x07D00000 ≤ 125 * 2 ^ 20 ∧
    -50 * 2 ^ 20 ≤ sintOf 32 0x07D00000 := by
  decide +kernel

/-- RdtempFahrenheitIsExact, second clause. -/
theorem witness_not_ok : ({ status := .transport, info := 1, results := Results.empty } : Response).status ≠ .ok := by
  decide +kernel

end Sys2Proof.Tests
end

section
/-! The scope family: no step changes the parameters (R4, R27), and `toQ` truncates toward zero (R6, R146). -/

namespace Sys2Proof.Machine

variable (s : State)

/-! ## What a step can do -/

/-- Everything a step with a next state can be: the reset event, a presented request run to its end, or waiting with
nothing presented (R44, R50, R160, R170). A block whose read never completes takes the reset event alone (R176). -/
theorem step_cases {s t : State} (h : step s = .next t) :
    (∃ rest, s.inputs = .reset :: rest ∧ t = (s.withInputs rest).applyReset) ∨
    (∃ r rest, s.inputs = .request r :: rest ∧ s.hung = false ∧
      exec (decodeInstr r) (s.withInputs rest) = .next t) ∨
    (s.inputs = [] ∧ s.hung = false ∧ t = s) := by
  unfold step takeInput at h
  split at h
  case h_1 rest hin =>
    cases h
    exact .inl ⟨rest, hin, rfl⟩
  case h_2 r rest hin =>
    split at h
    · cases h
    · next hh => exact .inr (.inl ⟨r, rest, hin, Bool.eq_false_of_not_eq_true hh, h⟩)
  case h_3 hin =>
    split at h
    · cases h
    · next hh =>
      cases h
      exact .inr (.inr ⟨hin, Bool.eq_false_of_not_eq_true hh, rfl⟩)

/-! ## The parameters -/

@[simp] theorem initRun_params (h : Handle) : (initRun h s).params = s.params := by
  rcases initRun_cases s h with ⟨_, e⟩ | ⟨_, e⟩ <;> simp [e]

@[simp] theorem writeConfig_params (h : Handle) (cached sent : Byte) (i : BitVec 3) :
    (writeConfig h cached sent i s).params = s.params := by
  rcases writeConfig_cases s h cached sent i with ⟨_, e⟩ | ⟨_, e⟩ <;> simp [e]

@[simp] theorem cmdRun_params (code : Byte) (h : Handle) : (cmdRun code h s).params = s.params := by
  rcases cmdRun_cases s code h with ⟨_, e⟩ | ⟨_, e⟩ <;> simp [e]

@[simp] theorem rdtempRun_params (p : Pointer) (h : Handle) : (rdtempRun p h s).params = s.params := by
  rcases rdtempRun_cases s p h with
    ⟨_, e⟩ | ⟨_, _, e⟩ | ⟨_, _, _, _, _, e⟩ | ⟨_, _, _, e⟩ | ⟨_, _, _, e⟩ <;> simp [e]

@[simp] theorem thermWrites_params (trip hyst : Celsius) (ft : FaultTolerance) (h : Handle) :
    (thermWrites trip hyst ft h s).params = s.params := by
  rcases thermWrites_cases s trip hyst ft h with
    ⟨_, e⟩ | ⟨_, _, e⟩ | ⟨_, _, _, e⟩ | ⟨_, _, _, e⟩ <;> simp [e]

/-- R27: `CW` and `FW` are arguments of an operation, and no operation writes them. -/
theorem exec_params {i : Instr} {s t : State} (h : exec i s = .next t) : t.params = s.params := by
  rcases exec_cases i s t h with
    ⟨_, _, _, _, _, rfl⟩ | ⟨_, _, rfl⟩ | ⟨_, _, _, _, _, rfl⟩ | ⟨_, _, _, _, rfl⟩ | ⟨_, _, _, _, _, _, _, rfl⟩ |
    ⟨_, _, _, _, _, _, _, rfl⟩ | ⟨_, _, _, _, rfl⟩ | ⟨_, _, _, _, rfl⟩ <;> simp

/-- Settles O60: the reset event, a request and waiting each keep the parameters. -/
theorem everyStepKeepsTheParameters : Obligations.EveryStepKeepsTheParameters := by
  intro s t h
  rcases step_cases h with ⟨rest, _, rfl⟩ | ⟨r, rest, _, _, he⟩ | ⟨_, _, rfl⟩
  · simp
  · exact (exec_params he).trans (s.withInputs_params rest)
  · rfl

/-! ## Truncation toward zero -/

theorem toQ_of_nonneg (fw : Nat) {x : Rat} (h : 0 ≤ x) : toQ fw x = ⌊x * 2 ^ fw⌋ :=
  if_neg h.not_gt

/-- R6: the sign is taken off, and put back on the truncated magnitude. -/
theorem toQ_neg (fw : Nat) (x : Rat) : toQ fw (-x) = -toQ fw x := by
  rcases lt_trichotomy x 0 with h | rfl | h
  · have hx : ¬ -x < 0 := by linarith
    simp [toQ, h, hx]
  · simp [toQ_of_nonneg]
  · have hx : -x < 0 := by linarith
    simp [toQ, hx, h.not_gt]

theorem toQ_nonneg (fw : Nat) {x : Rat} (h : 0 ≤ x) : 0 ≤ toQ fw x := by
  rw [toQ_of_nonneg fw h]
  positivity

theorem toQ_nonpos (fw : Nat) {x : Rat} (h : x ≤ 0) : toQ fw x ≤ 0 := by
  have := toQ_nonneg fw (neg_nonneg.mpr h)
  rwa [toQ_neg, neg_nonneg] at this

/-- The value kept of a number that is not negative: at most the number, and less than one unit `2^-FW` below it. -/
theorem toQ_div_le_and_lt (fw : Nat) {x : Rat} (h : 0 ≤ x) :
    (toQ fw x : Rat) / 2 ^ fw ≤ x ∧ x < (toQ fw x : Rat) / 2 ^ fw + 1 / 2 ^ fw := by
  have hp : (0 : Rat) < 2 ^ fw := by positivity
  rw [toQ_of_nonneg fw h, ← add_div, div_le_iff₀ hp, lt_div_iff₀ hp]
  exact ⟨Int.floor_le _, Int.lt_floor_add_one _⟩

/-- R146: never farther from zero than the number, and less than one unit `2^-FW` away from it. A negative number has the
magnitude and the error of its opposite. -/
theorem toQ_error (fw : Nat) (x : Rat) :
    |(toQ fw x : Rat) / 2 ^ fw| ≤ |x| ∧ |x - (toQ fw x : Rat) / 2 ^ fw| < 1 / 2 ^ fw := by
  wlog h : 0 ≤ x generalizing x
  · have opposite := this (-x) (by linarith)
    rwa [toQ_neg, Int.cast_neg, neg_div, abs_neg, abs_neg, ← neg_sub', abs_neg] at opposite
  obtain ⟨hle, hlt⟩ := toQ_div_le_and_lt fw h
  have hq : (0 : Rat) ≤ (toQ fw x : Rat) / 2 ^ fw :=
    div_nonneg (Int.cast_nonneg (toQ_nonneg fw h)) (by positivity)
  rw [abs_of_nonneg hq, abs_of_nonneg h, abs_of_nonneg (sub_nonneg.mpr hle)]
  exact ⟨hle, by linarith⟩

/-- Settles O57: the bounds from the magnitude's floor, the sign on each side of zero. -/
theorem toQTruncatesTowardZero : Obligations.ToQTruncatesTowardZero := by
  intro fw x
  obtain ⟨hle, hlt⟩ := toQ_error fw x
  exact ⟨hle, hlt, toQ_nonneg fw, toQ_nonpos fw⟩

end Sys2Proof.Machine
end

section
/-! The state family, its two invariants: every step keeps `State.Sound` and `State.CacheIsLastWrite`, and reset meets
both. A step's new events are appended at once, so each invariant has one lemma on appending a list of events. -/

namespace Sys2Proof.Machine

variable {s t : State} {h : Handle}

/-! ## The handles of the block are legal -/

theorem busAddrOf_addrLegal (a2 a1 a0 : Bit) : AddrLegal (busAddrOf a2 a1 a0) := by
  revert a2 a1 a0
  decide

/-- R12: bit 7 is hardwired to zero. -/
theorem Handle.writeCache_cacheLegal (h : Handle) (b : Byte) : CacheLegal (h.writeCache b).cfgCache := by
  simp [CacheLegal, BitVec.and_assoc]

theorem Handle.Legal.writeCache (hl : h.Legal) (b : Byte) : (h.writeCache b).Legal :=
  ⟨hl.1, h.writeCache_cacheLegal b⟩

theorem initHandle_legal (a2 a1 a0 : Bit) (res : Resolution) : (initHandle a2 a1 a0 res).Legal :=
  ⟨busAddrOf_addrLegal a2 a1 a0, Handle.writeCache_cacheLegal _ _⟩

/-! ## Appending events to a sound history -/

/-- Writes alone are in order after any event that does not block. -/
theorem ordered_of_writes {prev : Option Event} {new : List Event} (hp : prev.any Event.blocks = false)
    (hw : ∀ e ∈ new, ∃ a bytes o, e = .evW a bytes o) : ordered prev new = true := by
  induction new generalizing prev with
  | nil => rfl
  | cons e new ih =>
    obtain ⟨a, bytes, o, rfl⟩ := hw _ List.mem_cons_self
    simp [ordered, mayFollow, hp, ih (prev := some (.evW a bytes o)) rfl fun e he => hw e (List.mem_cons_of_mem _ he)]

theorem State.Sound.not_any_blocks (hs : s.Sound) (hh : s.hung = false) :
    s.history.getLast?.any Event.blocks = false := by
  obtain ⟨_, _, _, _, _, hung⟩ := hs
  rw [← hung, hh]

/-- The invariant after one operation's events: all at the legal handle the operation leaves, in an order that goes on
from the history, and waiting exactly where the last of them blocks. -/
theorem State.Sound.append (hs : s.Sound) {new : List Event} (hl : h.Legal) (hne : new ≠ [])
    (hnew : ∀ e ∈ new, e.legal = true ∧ e.addr = h.busAddr) (hord : ordered s.history.getLast? new = true)
    (handle : t.handle = some h) (history : t.history = s.history ++ new)
    (hung : t.hung = new.getLast?.any Event.blocks) : t.Sound := by
  obtain ⟨_, legal, order, _, _, _⟩ := hs
  have newest : new.getLast? = some (new.getLast hne) := List.getLast?_eq_some_getLast hne
  have last : t.history.getLast? = some (new.getLast hne) := by simp [history, List.getLast?_append, newest]
  refine ⟨?_, ?_, ?_, ?_, ?_, ?_⟩
  · rintro _ h'
    cases handle.symm.trans h'
    exact hl
  · rw [history, List.all_append, legal, Bool.true_and, List.all_eq_true]
    exact fun e he => (hnew e he).1
  · rw [history, ordered_append, order, Option.or_none, hord]
    rfl
  · simp [handle, history, hne]
  · rintro _ _ h' e'
    cases handle.symm.trans h'
    cases last.symm.trans e'
    exact (hnew _ (List.getLast_mem hne)).2
  · rw [hung, last, newest]

/-- R36, R37: an operation whose events are writes. -/
theorem State.Sound.append_writes (hs : s.Sound) (hh : s.hung = false) {new : List Event} (hl : h.Legal)
    (hne : new ≠ []) (hnew : ∀ e ∈ new, ∃ bytes o, e = .evW h.busAddr bytes o ∧ bytesLegal bytes = true)
    (handle : t.handle = some h) (history : t.history = s.history ++ new) (hung : t.hung = s.hung) : t.Sound := by
  refine hs.append hl hne ?_ (ordered_of_writes (hs.not_any_blocks hh) ?_) handle history ?_
  · intro e he
    obtain ⟨bytes, o, rfl, hb⟩ := hnew e he
    exact ⟨by simp [Event.legal, hb, hl.1], rfl⟩
  · intro e he
    obtain ⟨bytes, o, rfl, _⟩ := hnew e he
    exact ⟨_, _, _, rfl⟩
  · obtain ⟨bytes, o, e, _⟩ := hnew _ (List.getLast_mem hne)
    rw [hung, hh, List.getLast?_eq_some_getLast hne, e]
    rfl

/-- R38: the two-phase read at a pointer that is not CONFIG's. -/
theorem State.Sound.append_read (hs : s.Sound) (hh : s.hung = false) {p : Pointer} {r : Config.ReadOutcome}
    (hl : h.Legal) (hp : p ≠ .config) (handle : t.handle = some h)
    (history : t.history = s.history ++ [.evW h.busAddr [pointerByte p] .ok, .evR h.busAddr 2 r])
    (hung : t.hung = Event.blocks (.evR h.busAddr 2 r)) : t.Sound := by
  refine hs.append hl (by simp) ?_ ?_ handle history (by simpa using hung)
  · simp [Event.legal, Event.addr, bytesLegal, hl.1]
  · have read : readMayFollow h.busAddr (some (.evW h.busAddr [pointerByte p] .ok)) = true := by
      cases p <;> simp [readMayFollow] at hp ⊢
    simp [ordered, mayFollow, hs.not_any_blocks hh, read, Event.blocks]

/-! ## The controller operations keep `State.Sound` -/

theorem initRun_sound (hs : s.Sound) (hh : s.hung = false) (hl : h.Legal) : (initRun h s).Sound := by
  rcases initRun_cases s h with ⟨_, e⟩ | ⟨_, e⟩ <;> rw [e] <;>
    exact hs.append_writes hh hl (by simp) (by simp [bytesLegal]) rfl rfl rfl

theorem writeConfig_sound (hs : s.Sound) (hh : s.hung = false) (hl : h.Legal) (cached sent : Byte) (i : BitVec 3) :
    (writeConfig h cached sent i s).Sound := by
  rcases writeConfig_cases s h cached sent i with ⟨_, e⟩ | ⟨_, e⟩ <;> rw [e] <;>
    exact hs.append_writes hh (hl.writeCache cached) (by simp) (by simp [bytesLegal]) rfl rfl rfl

theorem cmdRun_sound (hs : s.Sound) (hh : s.hung = false) (handle : s.handle = some h) (code : Byte) :
    (cmdRun code h s).Sound := by
  have hl : h.Legal := hs.1 h handle
  rcases cmdRun_cases s code h with ⟨_, e⟩ | ⟨_, e⟩ <;> rw [e] <;>
    exact hs.append_writes hh hl (by simp) (by simp [bytesLegal]) handle rfl rfl

theorem rdtempRun_sound (hs : s.Sound) (hh : s.hung = false) (handle : s.handle = some h) (p : Pointer) :
    (rdtempRun p h s).Sound := by
  have hl : h.Legal := hs.1 h handle
  rcases rdtempRun_cases s p h with
    ⟨_, e⟩ | ⟨_, _, e⟩ | ⟨hp, _, _, _, _, e⟩ | ⟨hp, _, _, e⟩ | ⟨hp, _, _, e⟩ <;> rw [e]
  · exact hs
  · exact hs.append_writes hh hl (by simp) (by simp [bytesLegal]) handle rfl rfl
  · exact hs.append_read hh hl hp handle rfl hh
  · exact hs.append_read hh hl hp handle rfl hh
  · exact hs.append_read hh hl hp handle rfl rfl

theorem thermWrites_sound (hs : s.Sound) (hh : s.hung = false) (handle : s.handle = some h) (trip hyst : Celsius)
    (ft : FaultTolerance) : (thermWrites trip hyst ft h s).Sound := by
  have hl : h.Legal := hs.1 h handle
  rcases thermWrites_cases s trip hyst ft h with ⟨_, e⟩ | ⟨_, _, e⟩ | ⟨_, _, _, e⟩ | ⟨_, _, _, e⟩ <;> rw [e]
  · exact hs.append_writes hh hl (by simp) (by simp [bytesLegal, setpointBytes]) handle rfl rfl
  · exact hs.append_writes hh hl (by simp) (by simp [bytesLegal, setpointBytes]) handle rfl rfl
  · exact hs.append_writes hh (hl.writeCache _) (by simp) (by simp [bytesLegal, setpointBytes]) rfl rfl rfl
  · exact hs.append_writes hh (hl.writeCache _) (by simp) (by simp [bytesLegal, setpointBytes]) rfl rfl rfl

/-- No operation breaks the invariant where no read is waited for. -/
theorem exec_sound {i : Instr} (hs : s.Sound) (hh : s.hung = false) (he : exec i s = .next t) : t.Sound := by
  rcases exec_cases i s t he with
    ⟨_, _, _, _, _, rfl⟩ | ⟨_, _, rfl⟩ | ⟨a2, a1, a0, res, _, rfl⟩ | ⟨_, p, handle, _, rfl⟩ |
    ⟨_, _, _, _, _, _, _, rfl⟩ | ⟨_, x, y, z, handle, _, _, rfl⟩ | ⟨h, x, handle, _, rfl⟩ | ⟨_, x, handle, _, rfl⟩
  · exact hs
  · exact hs
  · exact initRun_sound hs hh (initHandle_legal a2 a1 a0 res)
  · exact rdtempRun_sound hs hh handle p
  · exact hs
  · exact thermWrites_sound hs hh handle x y z
  · exact writeConfig_sound hs hh (hs.1 h handle) x x 0
  · exact cmdRun_sound hs hh handle x

theorem State.applyReset_sound (s : State) : s.applyReset.Sound := by
  simp [State.Sound, ordered]

/-- Settles O52: the reset event restores the invariant, a request runs where no read is waited for, and waiting changes
nothing. -/
theorem everyStepKeepsSound : Obligations.EveryStepKeepsSound := by
  intro s t hs h
  rcases step_cases h with ⟨rest, _, rfl⟩ | ⟨r, rest, _, hh, he⟩ | ⟨_, _, rfl⟩
  · exact State.applyReset_sound _
  · exact exec_sound (s := s.withInputs rest) hs hh he
  · exact hs

/-! ## The cache is the last configuration byte written -/

/-- Events without a CONFIG write leave the newest one as it was. -/
theorem State.CacheIsLastWrite.append (hc : s.CacheIsLastWrite) {new : List Event}
    (hnew : lastConfigByte new = none) (handle : t.handle = s.handle) (history : t.history = s.history ++ new) :
    t.CacheIsLastWrite := by
  intro h hh
  rw [history, lastConfigByte_append, hnew, Option.none_or]
  exact hc h (handle ▸ hh)

/-- A CONFIG write makes the cache the byte it carries, without bit 7, whatever was cached before. -/
theorem cacheIsLastWrite_of_configByte {new : List Event} {b : Byte} (hnew : lastConfigByte new = some b)
    (handle : t.handle = some h) (cache : h.cfgCache = b &&& 0x7F) (history : t.history = s.history ++ new) :
    t.CacheIsLastWrite := by
  rintro _ h'
  cases handle.symm.trans h'
  simp [history, lastConfigByte_append, hnew, cache]

/-- A cache that has been written holds its own low seven bits. -/
theorem Handle.writeCache_masked (h : Handle) (b : Byte) :
    (h.writeCache b).cfgCache = (h.writeCache b).cfgCache &&& 0x7F := by
  simp [BitVec.and_assoc]

theorem initRun_cacheIsLastWrite (s : State) (hm : h.cfgCache = h.cfgCache &&& 0x7F) :
    (initRun h s).CacheIsLastWrite := by
  rcases initRun_cases s h with ⟨_, e⟩ | ⟨_, e⟩ <;> rw [e] <;>
    exact cacheIsLastWrite_of_configByte (s := s) rfl rfl hm rfl

theorem writeConfig_cacheIsLastWrite (s : State) (h : Handle) (b : Byte) (i : BitVec 3) :
    (writeConfig h b b i s).CacheIsLastWrite := by
  rcases writeConfig_cases s h b b i with ⟨_, e⟩ | ⟨_, e⟩ <;> rw [e] <;>
    exact cacheIsLastWrite_of_configByte (s := s) rfl rfl rfl rfl

/-- R37: a command code goes out alone, so it is no CONFIG write. -/
theorem cmdRun_cacheIsLastWrite (hc : s.CacheIsLastWrite) (code : Byte) (h : Handle) :
    (cmdRun code h s).CacheIsLastWrite := by
  rcases cmdRun_cases s code h with ⟨_, e⟩ | ⟨_, e⟩ <;> rw [e] <;> exact hc.append rfl rfl rfl

/-- R38: a pointer goes out alone, so it is no CONFIG write. -/
theorem rdtempRun_cacheIsLastWrite (hc : s.CacheIsLastWrite) (p : Pointer) (h : Handle) :
    (rdtempRun p h s).CacheIsLastWrite := by
  rcases rdtempRun_cases s p h with
    ⟨_, e⟩ | ⟨_, _, e⟩ | ⟨_, _, _, _, _, e⟩ | ⟨_, _, _, e⟩ | ⟨_, _, _, e⟩ <;> rw [e]
  · exact hc
  all_goals exact hc.append rfl rfl rfl

theorem thermWrites_cacheIsLastWrite (hc : s.CacheIsLastWrite) (trip hyst : Celsius) (ft : FaultTolerance)
    (h : Handle) : (thermWrites trip hyst ft h s).CacheIsLastWrite := by
  rcases thermWrites_cases s trip hyst ft h with ⟨_, e⟩ | ⟨_, _, e⟩ | ⟨_, _, _, e⟩ | ⟨_, _, _, e⟩ <;> rw [e]
  · exact hc.append rfl rfl rfl
  · exact hc.append rfl rfl rfl
  · exact cacheIsLastWrite_of_configByte (s := s) rfl rfl (h.writeCache_masked _) rfl
  · exact cacheIsLastWrite_of_configByte (s := s) rfl rfl (h.writeCache_masked _) rfl

theorem exec_cacheIsLastWrite {i : Instr} (hc : s.CacheIsLastWrite) (he : exec i s = .next t) :
    t.CacheIsLastWrite := by
  rcases exec_cases i s t he with
    ⟨_, _, _, _, _, rfl⟩ | ⟨_, _, rfl⟩ | ⟨a2, a1, a0, res, _, rfl⟩ | ⟨h, p, _, _, rfl⟩ |
    ⟨_, _, _, _, _, _, _, rfl⟩ | ⟨h, x, y, z, _, _, _, rfl⟩ | ⟨h, x, _, _, rfl⟩ | ⟨h, x, _, _, rfl⟩
  · exact hc
  · exact hc
  · exact initRun_cacheIsLastWrite s (Handle.writeCache_masked _ _)
  · exact rdtempRun_cacheIsLastWrite hc p h
  · exact hc
  · exact thermWrites_cacheIsLastWrite hc x y z h
  · exact writeConfig_cacheIsLastWrite s h x 0
  · exact cmdRun_cacheIsLastWrite hc x h

theorem cacheIsLastWrite_of_no_handle (handle : t.handle = none) : t.CacheIsLastWrite := by
  simp [State.CacheIsLastWrite, handle]

/-- Settles O53: the reset event leaves no cache, each operation keeps the invariant, and waiting changes nothing. -/
theorem everyStepKeepsTheCacheTheLastWrite : Obligations.EveryStepKeepsTheCacheTheLastWrite := by
  intro s t hc h
  rcases step_cases h with ⟨rest, _, rfl⟩ | ⟨r, rest, _, _, he⟩ | ⟨_, _, rfl⟩
  · exact cacheIsLastWrite_of_no_handle rfl
  · exact exec_cacheIsLastWrite (s := s.withInputs rest) hc he
  · exact hc

/-! ## Right after reset -/

/-- Settles O54: the state after reset is the one the reset event restores, and it holds no handle. -/
theorem resetMeetsTheInvariants : Obligations.ResetMeetsTheInvariants :=
  ⟨State.reset.applyReset_sound, cacheIsLastWrite_of_no_handle rfl⟩

/-- Settles O10: each item is what `State.reset` holds; the default widths are a legal pair. -/
theorem resetStateHoldsNoHandle : Obligations.ResetStateHoldsNoHandle :=
  ⟨rfl, rfl, rfl, rfl, rfl⟩

end Sys2Proof.Machine
end

section
/-! The state family, what an operation leaves as it was: the frames of the controller operations, who writes the
handle, and which fields THERM keeps. -/

namespace Sys2Proof.Machine

variable {s t : State} {h : Handle}

/-! ## Frames: the fields an operation writes at most -/

/-- From `s` to `t` only the handle, the history, the response and the count of writes can have changed. -/
def State.WriteFrame (s t : State) : Prop :=
  t = { s with handle := t.handle, history := t.history, response := t.response, writeDraws := t.writeDraws }

/-- From `s` to `t` only the history, the response, the counts of events and the waiting read can have changed. -/
def State.ReadFrame (s t : State) : Prop :=
  t = { s with history := t.history, response := t.response, hung := t.hung, writeDraws := t.writeDraws,
               readDraws := t.readDraws }

theorem State.WriteFrame.keeps (frame : s.WriteFrame t) :
    t.params = s.params ∧ t.inputs = s.inputs ∧ t.writeAnswers = s.writeAnswers ∧ t.readAnswers = s.readAnswers ∧
      t.readDraws = s.readDraws ∧ t.hung = s.hung := by
  rw [frame]
  exact ⟨rfl, rfl, rfl, rfl, rfl, rfl⟩

theorem State.ReadFrame.keeps (frame : s.ReadFrame t) :
    t.handle = s.handle ∧ t.params = s.params ∧ t.inputs = s.inputs ∧ t.writeAnswers = s.writeAnswers ∧
      t.readAnswers = s.readAnswers := by
  rw [frame]
  exact ⟨rfl, rfl, rfl, rfl, rfl⟩

theorem initRun_writeFrame (h : Handle) (s : State) : s.WriteFrame (initRun h s) := by
  rcases initRun_cases s h with ⟨_, e⟩ | ⟨_, e⟩ <;> rw [e] <;> rfl

theorem writeConfig_writeFrame (h : Handle) (cached sent : Byte) (i : BitVec 3) (s : State) :
    s.WriteFrame (writeConfig h cached sent i s) := by
  rcases writeConfig_cases s h cached sent i with ⟨_, e⟩ | ⟨_, e⟩ <;> rw [e] <;> rfl

theorem cmdRun_writeFrame (code : Byte) (h : Handle) (s : State) : s.WriteFrame (cmdRun code h s) := by
  rcases cmdRun_cases s code h with ⟨_, e⟩ | ⟨_, e⟩ <;> rw [e] <;> rfl

theorem thermWrites_writeFrame (trip hyst : Celsius) (ft : FaultTolerance) (h : Handle) (s : State) :
    s.WriteFrame (thermWrites trip hyst ft h s) := by
  rcases thermWrites_cases s trip hyst ft h with ⟨_, e⟩ | ⟨_, _, e⟩ | ⟨_, _, _, e⟩ | ⟨_, _, _, e⟩ <;> rw [e] <;> rfl

theorem thermRun_writeFrame (trip hyst : Celsius) (ft : FaultTolerance) (h : Handle) (s : State) :
    s.WriteFrame (thermRun trip hyst ft h s) := by
  rcases thermRun_cases s trip hyst ft h with ⟨_, e⟩ | ⟨_, e⟩ <;> rw [e]
  · exact thermWrites_writeFrame trip hyst ft h s
  · rfl

theorem rdtempRun_readFrame (p : Pointer) (h : Handle) (s : State) : s.ReadFrame (rdtempRun p h s) := by
  rcases rdtempRun_cases s p h with
    ⟨_, e⟩ | ⟨_, _, e⟩ | ⟨_, _, _, _, _, e⟩ | ⟨_, _, _, e⟩ | ⟨_, _, _, e⟩ <;> rw [e] <;> rfl

/-- What holds of the refusal before INIT and of the operation on each handle holds of a gated operation. -/
theorem State.whenInit_induction {P : State → Prop} {k : Handle → State} (refused : P (s.raise .notInit 0))
    (runs : ∀ h, s.handle = some h → P (k h)) : P (s.whenInit k) := by
  rcases s.whenInit_cases k with ⟨_, e⟩ | ⟨h, handle, e⟩ <;> rw [e]
  · exact refused
  · exact runs h handle

/-! ## What an operation makes of the handle -/

@[simp] theorem initRun_handle (h : Handle) (s : State) : (initRun h s).handle = some h := by
  rcases initRun_cases s h with ⟨_, e⟩ | ⟨_, e⟩ <;> rw [e]

@[simp] theorem writeConfig_handle (h : Handle) (cached sent : Byte) (i : BitVec 3) (s : State) :
    (writeConfig h cached sent i s).handle = some (h.writeCache cached) := by
  rcases writeConfig_cases s h cached sent i with ⟨_, e⟩ | ⟨_, e⟩ <;> rw [e]

@[simp] theorem cmdRun_handle (code : Byte) (h : Handle) (s : State) : (cmdRun code h s).handle = s.handle := by
  rcases cmdRun_cases s code h with ⟨_, e⟩ | ⟨_, e⟩ <;> rw [e]

@[simp] theorem rdtempRun_handle (p : Pointer) (h : Handle) (s : State) : (rdtempRun p h s).handle = s.handle :=
  (rdtempRun_readFrame p h s).keeps.1

/-- R123: THERM stops before its cache update with TRANSPORT, or makes it. -/
theorem thermWrites_handle_cases (trip hyst : Celsius) (ft : FaultTolerance) (h : Handle) (s : State) :
    ((thermWrites trip hyst ft h s).handle = s.handle ∧
      (thermWrites trip hyst ft h s).response.map Response.status = some .transport) ∨
    (thermWrites trip hyst ft h s).handle = some (h.writeCache (withFt h.cfgCache ft)) := by
  rcases thermWrites_cases s trip hyst ft h with ⟨_, e⟩ | ⟨_, _, e⟩ | ⟨_, _, _, e⟩ | ⟨_, _, _, e⟩ <;> rw [e]
  · exact .inl ⟨rfl, rfl⟩
  · exact .inl ⟨rfl, rfl⟩
  · exact .inr rfl
  · exact .inr rfl

/-- Everything an operation can make of the handle: leave it; create it, which is INIT; or write its cache, which is
THERM or SETCFG. -/
theorem exec_handle_cases {i : Instr} (he : exec i s = .next t) :
    t.handle = s.handle ∨
    (∃ a2 a1 a0 res, i = .init a2 a1 a0 res ∧ t.handle = some (initHandle a2 a1 a0 res)) ∨
    (((∃ trip hyst ft, i = .therm trip hyst ft) ∨ (∃ b, i = .setcfg b)) ∧
      ∃ h b, s.handle = some h ∧ t.handle = some (h.writeCache b)) := by
  rcases exec_cases i s t he with
    ⟨_, _, _, _, _, rfl⟩ | ⟨_, _, rfl⟩ | ⟨a2, a1, a0, res, hi, rfl⟩ | ⟨_, _, _, _, rfl⟩ |
    ⟨_, _, _, _, _, _, _, rfl⟩ | ⟨h, x, y, z, handle, hi, _, rfl⟩ | ⟨h, x, handle, hi, rfl⟩ | ⟨_, _, _, _, rfl⟩
  · exact .inl rfl
  · exact .inl rfl
  · exact .inr (.inl ⟨a2, a1, a0, res, hi, initRun_handle _ _⟩)
  · exact .inl (rdtempRun_handle _ _ _)
  · exact .inl rfl
  · rcases thermWrites_handle_cases x y z h s with ⟨e, _⟩ | e
    · exact .inl e
    · exact .inr (.inr ⟨.inl ⟨x, y, z, hi⟩, h, _, handle, e⟩)
  · exact .inr (.inr ⟨.inr ⟨x, hi⟩, h, x, handle, writeConfig_handle _ _ _ _ _⟩)
  · exact .inl (cmdRun_handle _ _ _)

/-- R13: an operation other than INIT leaves the address, or its absence. -/
theorem exec_busAddr {i : Instr} (hi : ∀ a2 a1 a0 res, i ≠ .init a2 a1 a0 res) (he : exec i s = .next t) :
    t.handle.map Handle.busAddr = s.handle.map Handle.busAddr := by
  rcases exec_handle_cases he with e | ⟨_, _, _, _, e, _⟩ | ⟨_, h, b, hs, ht⟩
  · rw [e]
  · exact absurd e (hi _ _ _ _)
  · rw [hs, ht]
    rfl

theorem State.initDone_eq_of_busAddr (e : t.handle.map Handle.busAddr = s.handle.map Handle.busAddr) :
    t.initDone = s.initDone := by
  simpa [State.initDone] using congrArg Option.isSome e

theorem exec_init_initDone {a2 a1 a0 : Bit} {res : Resolution} (he : exec (.init a2 a1 a0 res) s = .next t) :
    t.initDone = true := by
  cases he
  simp [State.initDone]

/-! ## The obligations on frames -/

/-- Settles O42: the law on pure and reserved operations, of which the legality of the response is not needed. -/
theorem pureOperationsWriteTheResponseOnly : Obligations.PureOperationsWriteTheResponseOnly := by
  intro i p hi
  obtain ⟨r, _, _, _, hr⟩ := exec_of_pure_or_reserved i hi p
  exact ⟨r, hr⟩

/-- Settles O43: RDTEMP by its frame; CMD by the frame of a writing operation and the handle it leaves. -/
theorem rdtempAndCmdLeaveTheHandle : Obligations.RdtempAndCmdLeaveTheHandle := by
  rintro i s t (⟨p, rfl⟩ | ⟨b, rfl⟩) he <;> cases he
  · have frame : s.ReadFrame (s.whenInit fun h => rdtempRun p h s) :=
      State.whenInit_induction rfl fun h _ => rdtempRun_readFrame p h s
    obtain ⟨handle, params, inputs, writes, reads⟩ := frame.keeps
    exact ⟨handle, params, inputs, writes, reads, fun ⟨_, e⟩ => nomatch e⟩
  · have frame : s.WriteFrame (s.whenInit fun h => cmdRun b h s) :=
      State.whenInit_induction rfl fun h _ => cmdRun_writeFrame b h s
    have handle : (s.whenInit fun h => cmdRun b h s).handle = s.handle :=
      State.whenInit_induction (P := fun t => t.handle = s.handle) rfl fun h _ => cmdRun_handle b h s
    obtain ⟨params, inputs, writes, reads, draws, hung⟩ := frame.keeps
    exact ⟨handle, params, inputs, writes, reads, fun _ => ⟨draws, hung⟩⟩

/-- Settles O44: the frame operation by operation; the address, and so `INIT_DONE`, by `exec_busAddr`. -/
theorem configurationOperationsFrame : Obligations.ConfigurationOperationsFrame := by
  intro i s t hi he
  refine ⟨?_, fun hn => ⟨State.initDone_eq_of_busAddr (exec_busAddr hn he), exec_busAddr hn he⟩⟩
  rcases hi with ⟨a2, a1, a0, res, rfl⟩ | ⟨trip, hyst, ft, rfl⟩ | ⟨b, rfl⟩ <;> cases he
  · exact initRun_writeFrame _ s
  · exact State.whenInit_induction (P := s.WriteFrame) rfl fun h _ => thermRun_writeFrame trip hyst ft h s
  · exact State.whenInit_induction (P := s.WriteFrame) rfl fun h _ => writeConfig_writeFrame h b b 0 s

/-- Settles O45: the list of what an operation can make of the handle, read once per clause. -/
theorem onlyTheControllerWritesTheHandle : Obligations.OnlyTheControllerWritesTheHandle := by
  intro i s t he
  refine ⟨fun changed => ?_, fun changed => ?_, fun done => ?_, ?_⟩
  · rcases exec_handle_cases he with e | ⟨a2, a1, a0, res, e, _⟩ | ⟨hi, _⟩
    · exact absurd e changed
    · exact .inl ⟨a2, a1, a0, res, e⟩
    · exact .inr hi
  · by_contra hi
    exact changed (exec_busAddr (fun a2 a1 a0 res e => hi ⟨a2, a1, a0, res, e⟩) he)
  · rcases exec_handle_cases he with e | ⟨_, _, _, _, _, e⟩ | ⟨_, _, _, _, e⟩
    · rwa [State.initDone, e]
    · rw [State.initDone, e, Option.isSome_some]
    · rw [State.initDone, e, Option.isSome_some]
  · rintro ⟨a2, a1, a0, res, rfl⟩
    exact exec_init_initDone he

/-! ## The fields THERM keeps -/

/-- R20: the cache THERM leaves unpacks to the fields it found, with the new fault tolerance. -/
theorem unpackConfig_writeCache_withFt (hc : CacheLegal h.cfgCache) (ft : FaultTolerance) :
    unpackConfig (h.writeCache (withFt h.cfgCache ft)).cfgCache = { unpackConfig h.cfgCache with ft := ft } := by
  rw [writeCache_withFt]
  generalize h.cfgCache = b at hc
  revert b
  cases ft <;> decide +kernel

theorem exec_therm_of_handle (trip hyst : Celsius) (ft : FaultTolerance) (handle : s.handle = some h) :
    exec (.therm trip hyst ft) s = .next (thermRun trip hyst ft h s) :=
  congrArg _ (s.whenInit_some _ handle)

/-- THERM past the gate leaves the handle and does not answer OK, or updates the cache. -/
theorem thermRun_handle_cases (trip hyst : Celsius) (ft : FaultTolerance) (h : Handle) (s : State) :
    ((thermRun trip hyst ft h s).handle = s.handle ∧
      (thermRun trip hyst ft h s).response.map Response.status ≠ some .ok) ∨
    (thermRun trip hyst ft h s).handle = some (h.writeCache (withFt h.cfgCache ft)) := by
  rcases thermRun_cases s trip hyst ft h with ⟨_, e⟩ | ⟨_, e⟩ <;> rw [e]
  · exact (thermWrites_handle_cases trip hyst ft h s).imp_left fun ⟨kept, status⟩ => ⟨kept, by simp [status]⟩
  · exact .inl ⟨rfl, by simp⟩

/-- Settles O38: the handle stays and the answer is not OK, or the cache takes the fault tolerance and nothing else. -/
theorem thermPreservesTheOtherFields : Obligations.ThermPreservesTheOtherFields := by
  intro trip hyst ft s t h handle hc he
  rw [exec_therm_of_handle trip hyst ft handle] at he
  cases he
  rcases thermRun_handle_cases trip hyst ft h s with ⟨e, status⟩ | e
  · exact ⟨h, e.trans handle, rfl, rfl, fun ok => absurd ok status⟩
  · exact ⟨_, e, rfl, by rw [unpackConfig_writeCache_withFt hc], fun _ => by rw [unpackConfig_writeCache_withFt hc]⟩

end Sys2Proof.Machine
end

section
/-! The state family, what no operation can tell apart: two states that differ in the earlier response, and two that
differ in the cached byte. -/

namespace Sys2Proof.Machine

variable {s t u : State} {h h' : Handle} {r : Option Response}

/-- R116: past the pointer check RDTEMP is the two-phase read. -/
theorem rdtempRun_of_ne_config {p : Pointer} (hp : p ≠ .config) (h : Handle) (s : State) :
    rdtempRun p h s = orTransport (s.selectRegister h p) 0 fun t =>
      orReadFailure (t.busRead h.busAddr) fun b1 b2 v =>
        v.respond { cOut := some (decodeValue s.params.cw s.params.fw b1 b2).toNat } := by
  cases p
  case config => exact absurd rfl hp
  all_goals rfl

/-! ## The earlier response -/

/-- A continuation that overwrites the response leaves nothing of an earlier one, whatever the event's outcome. -/
theorem orTransport_withResponse (e : Config.WriteOutcome × State) (i : BitVec 3) {k : State → State}
    (hk : ∀ t, k (t.withResponse r) = k t) : orTransport (e.1, e.2.withResponse r) i k = orTransport e i k := by
  obtain ⟨_ | _, t⟩ := e
  · exact hk t
  · rfl

theorem orReadFailure_withResponse (e : Config.ReadOutcome × State) {k : Byte → Byte → State → State}
    (hk : ∀ b1 b2 t, k b1 b2 (t.withResponse r) = k b1 b2 t) :
    orReadFailure (e.1, e.2.withResponse r) k = orReadFailure e k := by
  obtain ⟨⟨b1, b2⟩ | _ | _, t⟩ := e
  · exact hk b1 b2 t
  · rfl
  · rfl

theorem initRun_withResponse (h : Handle) (s : State) : initRun h (s.withResponse r) = initRun h s :=
  orTransport_withResponse ((s.withHandle h).memWrite h .config [h.cfgCache]) 0 fun _ => rfl

theorem writeConfig_withResponse (h : Handle) (cached sent : Byte) (i : BitVec 3) (s : State) :
    writeConfig h cached sent i (s.withResponse r) = writeConfig h cached sent i s :=
  orTransport_withResponse ((s.withHandle (h.writeCache cached)).memWrite h .config [sent]) i fun _ => rfl

theorem cmdRun_withResponse (code : Byte) (h : Handle) (s : State) :
    cmdRun code h (s.withResponse r) = cmdRun code h s :=
  orTransport_withResponse (s.cmdWrite h code) 0 fun _ => rfl

theorem thermWrites_withResponse (trip hyst : Celsius) (ft : FaultTolerance) (h : Handle) (s : State) :
    thermWrites trip hyst ft h (s.withResponse r) = thermWrites trip hyst ft h s :=
  orTransport_withResponse (s.memWrite h .trip (setpointBytes s.params trip)) 0 fun t =>
    orTransport_withResponse (t.memWrite h .hyst (setpointBytes s.params hyst)) 1 fun u =>
      writeConfig_withResponse h _ _ 2 u

theorem thermRun_withResponse (trip hyst : Celsius) (ft : FaultTolerance) (h : Handle) (s : State) :
    thermRun trip hyst ft h (s.withResponse r) = thermRun trip hyst ft h s := by
  rcases thermRun_cases s trip hyst ft h with ⟨passes, e⟩ | ⟨refuses, e⟩ <;> rw [e]
  · exact (if_pos passes).trans (thermWrites_withResponse trip hyst ft h s)
  · exact if_neg refuses

theorem rdtempRun_withResponse (p : Pointer) (h : Handle) (s : State) :
    rdtempRun p h (s.withResponse r) = rdtempRun p h s := by
  by_cases hp : p = .config
  · subst hp
    rfl
  · rw [rdtempRun_of_ne_config hp, rdtempRun_of_ne_config hp]
    exact orTransport_withResponse (s.selectRegister h p) 0 fun t =>
      orReadFailure_withResponse (t.busRead h.busAddr) fun _ _ _ => rfl

theorem State.whenInit_withResponse {k k' : Handle → State} (hk : ∀ h, k h = k' h) :
    (s.withResponse r).whenInit k = s.whenInit k' := by
  obtain rfl : k = k' := funext hk
  rcases s.whenInit_cases k with ⟨handle, e⟩ | ⟨_, handle, e⟩ <;> rw [e]
  · exact State.whenInit_none _ k handle
  · exact State.whenInit_some _ k handle

/-- Settles O49: a pure operation answers from its operands; a controller operation overwrites the response on every path
and reads it on none. -/
theorem statusIsNotSticky : Obligations.StatusIsNotSticky := by
  intro i s r
  by_cases hi : isPure i = true ∨ isReserved i = true
  · obtain ⟨_, _, _, _, hr⟩ := exec_of_pure_or_reserved i hi s.params
    rw [hr s rfl, hr { s with response := r } rfl]
  cases i <;> simp [isPure, isReserved] at hi
  case init => exact congrArg Host.Outcome.next (initRun_withResponse _ s)
  case rdtemp p =>
    exact congrArg Host.Outcome.next (State.whenInit_withResponse fun h => rdtempRun_withResponse p h s)
  case therm x y z =>
    exact congrArg Host.Outcome.next (State.whenInit_withResponse fun h => thermRun_withResponse x y z h s)
  case setcfg b =>
    exact congrArg Host.Outcome.next (State.whenInit_withResponse fun h => writeConfig_withResponse h b b 0 s)
  case cmd b =>
    exact congrArg Host.Outcome.next (State.whenInit_withResponse fun h => cmdRun_withResponse b h s)

/-! ## The cached byte -/

/-- What the host and the environment can see of the two states is alike: everything but the cached byte and the data
bytes of the events. -/
structure State.Alike (s u : State) : Prop where
  params : u.params = s.params
  response : u.response = s.response
  hung : u.hung = s.hung
  busAddr : u.handle.map Handle.busAddr = s.handle.map Handle.busAddr
  events : u.history.length = s.history.length
  writeAnswers : u.writeAnswers = s.writeAnswers
  readAnswers : u.readAnswers = s.readAnswers
  writeDraws : u.writeDraws = s.writeDraws
  readDraws : u.readDraws = s.readDraws

theorem State.alike_cache (handle : s.handle = some h) (b : Byte) :
    s.Alike { s with handle := some { h with cfgCache := b } } :=
  ⟨rfl, rfl, rfl, by rw [handle]; rfl, rfl, rfl, rfl, rfl, rfl⟩

namespace State.Alike

theorem withResponse (a : s.Alike u) (r : Option Response) : (s.withResponse r).Alike (u.withResponse r) :=
  { a with response := rfl }

theorem hang (a : s.Alike u) : s.hang.Alike u.hang :=
  { a with response := rfl, hung := rfl }

theorem withHandle (a : s.Alike u) (hb : h'.busAddr = h.busAddr) : (s.withHandle h).Alike (u.withHandle h') :=
  { a with busAddr := congrArg some hb }

theorem writeOutcome (a : s.Alike u) (k : Nat) : u.writeOutcome k = s.writeOutcome k := by
  simp only [State.writeOutcome, a.writeAnswers, a.writeDraws]

theorem readOutcome (a : s.Alike u) (k : Nat) : u.readOutcome k = s.readOutcome k := by
  simp only [State.readOutcome, a.readAnswers, a.readDraws]

theorem record_drewWrite (a : s.Alike u) (e e' : Event) : (s.record e).drewWrite.Alike (u.record e').drewWrite :=
  { a with events := by simp [a.events], writeDraws := by simp [a.writeDraws] }

theorem record_drewRead (a : s.Alike u) (e e' : Event) : (s.record e).drewRead.Alike (u.record e').drewRead :=
  { a with events := by simp [a.events], readDraws := by simp [a.readDraws] }

/-- Writes from like states have one outcome, whatever bytes they carry, so both operations go on or both stop. -/
theorem after_write (a : s.Alike u) {x x' : BusAddr} {bytes bytes' : List Byte} (i : BitVec 3) {k k' : State → State}
    (hk : ∀ t v, t.Alike v → (k t).Alike (k' v)) :
    (orTransport (s.busWrite x bytes) i k).Alike (orTransport (u.busWrite x' bytes') i k') := by
  rw [busWrite_eq, busWrite_eq, a.writeOutcome]
  cases s.writeOutcome 0
  case ok => exact hk _ _ (a.record_drewWrite _ _)
  case fail => exact (a.record_drewWrite _ _).withResponse _

/-- Reads from like states have one outcome and the same two bytes. -/
theorem after_read (a : s.Alike u) {x x' : BusAddr} {k k' : Byte → Byte → State → State}
    (hk : ∀ b1 b2 t v, t.Alike v → (k b1 b2 t).Alike (k' b1 b2 v)) :
    (orReadFailure (s.busRead x) k).Alike (orReadFailure (u.busRead x') k') := by
  rw [busRead_eq, busRead_eq, a.readOutcome]
  cases s.readOutcome 0
  case ok b1 b2 => exact hk b1 b2 _ _ (a.record_drewRead _ _)
  case fail => exact (a.record_drewRead _ _).withResponse _
  case never => exact (a.record_drewRead _ _).hang

theorem initRun (a : s.Alike u) (h : Handle) : (initRun h s).Alike (initRun h u) :=
  (a.withHandle rfl).after_write 0 fun _ _ b => b.withResponse _

theorem writeConfig (a : s.Alike u) (hb : h'.busAddr = h.busAddr) (cached cached' sent sent' : Byte) (i : BitVec 3) :
    (writeConfig h cached sent i s).Alike (writeConfig h' cached' sent' i u) :=
  (a.withHandle (h := h.writeCache cached) (h' := h'.writeCache cached') hb).after_write i fun _ _ b => b.withResponse _

theorem cmdRun (a : s.Alike u) (code : Byte) (h h' : Handle) : (cmdRun code h s).Alike (cmdRun code h' u) :=
  a.after_write 0 fun _ _ b => b.withResponse _

theorem thermWrites (a : s.Alike u) (hb : h'.busAddr = h.busAddr) (trip hyst : Celsius) (ft : FaultTolerance) :
    (thermWrites trip hyst ft h s).Alike (thermWrites trip hyst ft h' u) :=
  a.after_write 0 fun _ _ b => b.after_write 1 fun _ _ c => c.writeConfig hb _ _ _ _ 2

theorem thermRun (a : s.Alike u) (hb : h'.busAddr = h.busAddr) (trip hyst : Celsius) (ft : FaultTolerance) :
    (thermRun trip hyst ft h s).Alike (thermRun trip hyst ft h' u) := by
  unfold Machine.thermRun
  rw [a.params]
  split
  · exact a.thermWrites hb trip hyst ft
  · exact a.withResponse _

theorem rdtempRun (a : s.Alike u) (p : Pointer) (h h' : Handle) : (rdtempRun p h s).Alike (rdtempRun p h' u) := by
  by_cases hp : p = .config
  · subst hp
    exact a.withResponse _
  · rw [rdtempRun_of_ne_config hp, rdtempRun_of_ne_config hp, a.params]
    exact a.after_write 0 fun _ _ b => b.after_read fun _ _ _ _ c => c.withResponse _

/-- The gate passes in both states, on handles with one address. -/
theorem whenInit (hs : s.handle = some h) (hu : u.handle = some h') {k k' : Handle → State}
    (hk : (k h).Alike (k' h')) : (s.whenInit k).Alike (u.whenInit k') := by
  rw [s.whenInit_some k hs, u.whenInit_some k' hu]
  exact hk

/-- Every operation takes like initialised states to like states. -/
theorem exec (a : s.Alike u) (hs : s.handle = some h) (hu : u.handle = some h') (hb : h'.busAddr = h.busAddr)
    {i : Instr} (he : exec i s = .next t) : ∃ v, Machine.exec i u = .next v ∧ t.Alike v := by
  by_cases hi : isPure i = true ∨ isReserved i = true
  · obtain ⟨r, _, _, _, hr⟩ := exec_of_pure_or_reserved i hi s.params
    cases (hr s rfl).symm.trans he
    exact ⟨_, hr u a.params, a.withResponse _⟩
  cases i <;> simp [isPure, isReserved] at hi
  case init => cases he; exact ⟨_, rfl, a.initRun _⟩
  case rdtemp p => cases he; exact ⟨_, rfl, whenInit hs hu (a.rdtempRun p h h')⟩
  case therm x y z => cases he; exact ⟨_, rfl, whenInit hs hu (a.thermRun hb x y z)⟩
  case setcfg b => cases he; exact ⟨_, rfl, whenInit hs hu (a.writeConfig hb b b b b 0)⟩
  case cmd b => cases he; exact ⟨_, rfl, whenInit hs hu (a.cmdRun b h h')⟩

end State.Alike

/-- Settles O51: the two states are alike, and every operation keeps them so. -/
theorem noAnswerDependsOnTheCache : Obligations.NoAnswerDependsOnTheCache := by
  intro i s t h b handle he
  obtain ⟨u, hu, a⟩ := (State.alike_cache handle b).exec handle rfl rfl he
  exact ⟨u, hu, a.response, a.hung, a.busAddr, a.events, a.writeDraws, a.readDraws⟩

end Sys2Proof.Machine
end

section
/-! The memory family: a step runs the presented request, and an operation stops at its first failed bus event. What an
operation has done between two of its events is `State.Ran`; each event either extends it or ends the operation. -/

namespace Sys2Proof.Machine

variable {s t u : State} {a : BusAddr} {done : List Event}

/-! ## The presented request -/

/-- The one case of `step_cases` that runs an operation, as an equation. -/
theorem step_of_request {r : Request} {rest : List HostInput} (hh : s.hung = false)
    (hin : s.inputs = .request r :: rest) : step s = exec (decodeInstr r) (s.withInputs rest) := by
  simp [step, takeInput, hin, hh]

/-- Settles O7: the state without the request is the state with the rest of the queue. -/
theorem stepRunsThePresentedRequest : Obligations.StepRunsThePresentedRequest :=
  fun _ _ _ hh hin => step_of_request hh hin

/-! ## Events up to the first failure -/

/-- R41, R44, R123, R159: what an operation from `s` has added to the history where it leaves `t`. -/
def State.StopsAtFirstFailure (s t : State) : Prop :=
  ∃ new : List Event, t.history = s.history ++ new ∧ new.length ≤ 3 ∧
    (∀ e ∈ new, t.handle.map Handle.busAddr = some e.addr) ∧
    (∀ e ∈ new.dropLast, e.succeeded = true) ∧
    (∀ r, t.response = some r → r.status = .transport →
      new.getLast?.map Event.succeeded = some false ∧ r.info.toNat + 1 = new.length) ∧
    (∀ r, t.response = some r → r.status = .ok → ∀ e ∈ new, e.succeeded = true)

/-- An operation begun at `s` has come to `t` without a failure: `done` are its events so far, all successful and all
addressed to the `BUS_ADDR` of `t`, which is `a`. -/
structure State.Ran (s t : State) (a : BusAddr) (done : List Event) : Prop where
  busAddr : t.handle.map Handle.busAddr = some a
  history : t.history = s.history ++ done
  addressed : ∀ e ∈ done, e.addr = a
  succeeded : ∀ e ∈ done, e.succeeded = true

/-- Nothing has happened on the bus yet; the handle may have been written. -/
theorem State.Ran.start {h : Handle} (handle : t.handle = some h) (history : t.history = s.history) :
    s.Ran t h.busAddr [] :=
  ⟨by simp [handle], by simp [history], by simp, by simp⟩

/-- A handle with the same address may be written between two events. -/
theorem State.Ran.withHandle {h : Handle} (ran : s.Ran t h.busAddr done) (cached : Byte) :
    s.Ran (t.withHandle (h.writeCache cached)) h.busAddr done :=
  { ran with busAddr := rfl }

/-- One more successful event. -/
theorem State.Ran.append (ran : s.Ran t a done) {e : Event} (addr : e.addr = a) (ok : e.succeeded = true)
    (handle : u.handle = t.handle) (history : u.history = t.history ++ [e]) : s.Ran u a (done ++ [e]) where
  busAddr := handle ▸ ran.busAddr
  history := by rw [history, ran.history, List.append_assoc]
  addressed := List.forall_mem_append.mpr ⟨ran.addressed, List.forall_mem_singleton.mpr addr⟩
  succeeded := List.forall_mem_append.mpr ⟨ran.succeeded, List.forall_mem_singleton.mpr ok⟩

/-- The end without a failure: any answer but TRANSPORT. -/
theorem State.Ran.finish (ran : s.Ran t a done) (short : done.length ≤ 3) {r : Response}
    (status : r.status ≠ .transport) : s.StopsAtFirstFailure (t.withResponse (some r)) := by
  refine ⟨done, ran.history, short, ?_, ?_, ?_, ?_⟩
  · exact fun e he => ran.busAddr.trans (congrArg some (ran.addressed e he).symm)
  · exact fun e he => ran.succeeded e (List.mem_of_mem_dropLast he)
  · rintro _ ⟨⟩ failed
    exact absurd failed status
  · exact fun _ _ _ => ran.succeeded

/-- The end at an event that did not succeed: TRANSPORT with the number of that event, or no answer. -/
theorem State.Ran.stop (ran : s.Ran t a done) (short : done.length ≤ 2) {e : Event} (addr : e.addr = a)
    (failed : e.succeeded = false) (handle : u.handle = t.handle) (history : u.history = t.history ++ [e])
    (answer : ∀ r, u.response = some r → r.status = .transport ∧ r.info.toNat = done.length) :
    s.StopsAtFirstFailure u := by
  refine ⟨done ++ [e], ?_, ?_, ?_, ?_, ?_, ?_⟩
  · rw [history, ran.history, List.append_assoc]
  · simpa using Nat.lt_succ_of_le short
  · intro x hx
    have hxa : x.addr = a :=
      List.forall_mem_append.mpr ⟨ran.addressed, List.forall_mem_singleton.mpr addr⟩ x hx
    rw [handle, ran.busAddr, hxa]
  · simpa using ran.succeeded
  · intro r hr _
    obtain ⟨_, info⟩ := answer r hr
    simp [failed, info]
  · intro r hr ok
    obtain ⟨transport, _⟩ := answer r hr
    exact absurd (transport.symm.trans ok) (by decide)

/-- R123, R133: a write event whose `info` is its number extends the run, or ends the operation. -/
theorem State.Ran.after_write (ran : s.Ran t a done) (short : done.length ≤ 2) {bytes : List Byte} {i : BitVec 3}
    (number : i.toNat = done.length) {k : State → State}
    (next : ∀ u, s.Ran u a (done ++ [.evW a bytes .ok]) → s.StopsAtFirstFailure (k u)) :
    s.StopsAtFirstFailure (orTransport (t.busWrite a bytes) i k) := by
  rw [State.busWrite_eq]
  cases t.writeOutcome 0
  case ok => exact next _ (ran.append rfl rfl rfl rfl)
  case fail => exact ran.stop short (e := .evW a bytes .fail) rfl rfl rfl rfl (by rintro _ ⟨⟩; exact ⟨rfl, number⟩)

/-- R118, R133, R176: a read, which is event 1, extends the run, ends the operation, or blocks. -/
theorem State.Ran.after_read (ran : s.Ran t a done) (number : done.length = 1) {k : Byte → Byte → State → State}
    (next : ∀ b1 b2 u, s.Ran u a (done ++ [.evR a 2 (.ok b1 b2)]) → s.StopsAtFirstFailure (k b1 b2 u)) :
    s.StopsAtFirstFailure (orReadFailure (t.busRead a) k) := by
  have short : done.length ≤ 2 := by omega
  rw [State.busRead_eq]
  cases t.readOutcome 0
  case ok b1 b2 => exact next b1 b2 _ (ran.append rfl rfl rfl rfl)
  case fail =>
    exact ran.stop short (e := .evR a 2 .fail) rfl rfl rfl rfl (by rintro _ ⟨⟩; exact ⟨rfl, number.symm⟩)
  case never => exact ran.stop short (e := .evR a 2 .never) rfl rfl rfl rfl (by rintro _ ⟨⟩)

/-! ## Each operation -/

/-- An answer other than TRANSPORT with no event before it, initialised or not. -/
theorem stopsAtFirstFailure_withResponse (s : State) {r : Response} (status : r.status ≠ .transport) :
    s.StopsAtFirstFailure (s.withResponse (some r)) := by
  refine ⟨[], by simp, by simp, by simp, by simp, ?_, by simp⟩
  rintro _ ⟨⟩ failed
  exact absurd failed status

theorem initRun_stopsAtFirstFailure (h : Handle) (s : State) : s.StopsAtFirstFailure (initRun h s) :=
  State.Ran.after_write (.start rfl rfl) (by simp) rfl fun _ ran => ran.finish (by simp) (by simp)

theorem writeConfig_stopsAtFirstFailure {h : Handle} (ran : s.Ran t h.busAddr done) (short : done.length ≤ 2)
    (cached sent : Byte) {i : BitVec 3} (number : i.toNat = done.length) :
    s.StopsAtFirstFailure (writeConfig h cached sent i t) :=
  (ran.withHandle cached).after_write short number fun _ ran => ran.finish (by simpa using Nat.lt_succ_of_le short) (by simp)

theorem cmdRun_stopsAtFirstFailure {h : Handle} (handle : s.handle = some h) (code : Byte) :
    s.StopsAtFirstFailure (cmdRun code h s) :=
  State.Ran.after_write (.start handle rfl) (by simp) rfl fun _ ran => ran.finish (by simp) (by simp)

theorem rdtempRun_stopsAtFirstFailure {h : Handle} (handle : s.handle = some h) (p : Pointer) :
    s.StopsAtFirstFailure (rdtempRun p h s) := by
  by_cases hp : p = .config
  · subst hp
    exact stopsAtFirstFailure_withResponse s (by simp)
  · rw [rdtempRun_of_ne_config hp]
    exact State.Ran.after_write (.start handle rfl) (by simp) rfl fun _ ran =>
      ran.after_read (by simp) fun _ _ _ ran => ran.finish (by simp) (by simp)

theorem thermWrites_stopsAtFirstFailure {h : Handle} (handle : s.handle = some h) (trip hyst : Celsius)
    (ft : FaultTolerance) : s.StopsAtFirstFailure (thermWrites trip hyst ft h s) :=
  State.Ran.after_write (.start handle rfl) (by simp) rfl fun _ ran =>
    ran.after_write (by simp) rfl fun _ ran => writeConfig_stopsAtFirstFailure ran (by simp) _ _ rfl

/-- Settles O48: a pure operation and a refusal add no event; each controller operation is a run of writes and at most one
read, numbered as they come. -/
theorem operationsStopAtTheirFirstFailedEvent : Obligations.OperationsStopAtTheirFirstFailedEvent := by
  intro i s t he
  rcases exec_cases i s t he with
    ⟨_, r, _, status, _, rfl⟩ | ⟨_, _, rfl⟩ | ⟨_, _, _, _, _, rfl⟩ | ⟨_, p, handle, _, rfl⟩ |
    ⟨_, _, _, _, _, _, _, rfl⟩ | ⟨_, x, y, z, handle, _, _, rfl⟩ | ⟨_, x, handle, _, rfl⟩ | ⟨_, x, handle, _, rfl⟩
  · exact stopsAtFirstFailure_withResponse s (by rcases status with e | e | e <;> simp [e])
  · exact stopsAtFirstFailure_withResponse s (by simp)
  · exact initRun_stopsAtFirstFailure _ s
  · exact rdtempRun_stopsAtFirstFailure handle p
  · exact stopsAtFirstFailure_withResponse s (by simp)
  · exact thermWrites_stopsAtFirstFailure handle x y z
  · exact writeConfig_stopsAtFirstFailure (.start handle rfl) (by simp) x x rfl
  · exact cmdRun_stopsAtFirstFailure handle x

end Sys2Proof.Machine
end

section
/-! The encoding family: a request and its bit image determine each other (log 6), an instruction and its canonical
request determine each other (R50, R52), and the reserved codes answer ILLEGAL_OP (R53, R155). -/

namespace Sys2Proof

variable (cw w : Nat) (r : Request) (i : Instr)

/-! ## Numbers cut at a bit position -/

theorem div_two_pow_add (k n : Nat) : w / 2 ^ (k + n) = w / 2 ^ n / 2 ^ k := by
  rw [Nat.div_div_eq_div_mul, ← pow_add, add_comm]

/-- The `k` bits from bit `n` up, and the bits above them. -/
theorem field_add_rest (n k : Nat) : w / 2 ^ n % 2 ^ k + 2 ^ k * (w / 2 ^ (k + n)) = w / 2 ^ n := by
  rw [div_two_pow_add, Nat.mod_add_div]

/-- Where the bits from `n` up are written as `k` bits and a rest, the rest is what stands above the `k` bits. -/
theorem div_eq_rest {w n k x y : Nat} (h : w / 2 ^ n = x % 2 ^ k + 2 ^ k * y) : w / 2 ^ (k + n) = y := by
  have hx : x % 2 ^ k / 2 ^ k = 0 := Nat.div_eq_of_lt (Nat.mod_lt x (by positivity))
  rw [div_two_pow_add, h, Nat.add_mul_div_left _ _ (by positivity), hx, zero_add]

theorem mod_eq_field {w n k x y : Nat} (h : w / 2 ^ n = x % 2 ^ k + 2 ^ k * y) : w / 2 ^ n % 2 ^ k = x % 2 ^ k := by
  rw [h, Nat.add_mul_mod_self_left, Nat.mod_mod]

theorem celsiusFits_iff (c : Celsius) : celsiusFits cw c = true ↔ c < 2 ^ cw := by
  simp [celsiusFits]

theorem Request.fits_iff : r.fits cw = true ↔ r.c < 2 ^ cw ∧ r.trip < 2 ^ cw ∧ r.hyst < 2 ^ cw := by
  simp [Request.fits, celsiusFits_iff, and_assoc]

/-! ## The image and the ports -/

/-- The ports below the Celsius ports, 20 bits. -/
def Request.lowerImage : Nat :=
  r.op.toNat + 2 ^ 4 * r.high.toNat + 2 ^ 12 * r.low.toNat

theorem Request.image_eq : r.image cw = r.lowerImage +
    2 ^ 20 * (r.c % 2 ^ cw + 2 ^ cw * (r.trip % 2 ^ cw + 2 ^ cw * (r.hyst % 2 ^ cw + 2 ^ cw * r.upperImage))) := rfl

theorem Request.lowerImage_lt : r.lowerImage < 2 ^ 20 := by
  unfold Request.lowerImage
  omega

theorem Request.upperImage_lt : r.upperImage < 2 ^ 21 := by
  unfold Request.upperImage
  omega

/-! What stands above each group of ports in the image of a request. -/

theorem Request.image_above_lower : r.image cw / 2 ^ 20 =
    r.c % 2 ^ cw + 2 ^ cw * (r.trip % 2 ^ cw + 2 ^ cw * (r.hyst % 2 ^ cw + 2 ^ cw * r.upperImage)) := by
  rw [Request.image_eq, Nat.add_mul_div_left _ _ (by norm_num), Nat.div_eq_of_lt r.lowerImage_lt, zero_add]

theorem Request.image_above_c : r.image cw / 2 ^ (20 + cw) =
    r.trip % 2 ^ cw + 2 ^ cw * (r.hyst % 2 ^ cw + 2 ^ cw * r.upperImage) := by
  rw [add_comm, div_eq_rest (r.image_above_lower cw)]

theorem Request.image_above_trip : r.image cw / 2 ^ (20 + 2 * cw) = r.hyst % 2 ^ cw + 2 ^ cw * r.upperImage := by
  rw [show 20 + 2 * cw = cw + (20 + cw) by omega, div_eq_rest (r.image_above_c cw)]

theorem Request.image_above_hyst : r.image cw / 2 ^ (20 + 3 * cw) = r.upperImage := by
  rw [show 20 + 3 * cw = cw + (20 + 2 * cw) by omega, div_eq_rest (r.image_above_trip cw)]

theorem Request.image_mod : r.image cw % 2 ^ 20 = r.lowerImage := by
  rw [Request.image_eq, Nat.add_mul_mod_self_left, Nat.mod_eq_of_lt r.lowerImage_lt]

/-- Log 6: the ports below, between and above the Celsius ports are read from the bits `image` puts them in, each port of
fixed width as a field of the lower or of the upper group. -/
theorem Request.ofImage_image (h : r.fits cw = true) : Request.ofImage cw (r.image cw) = r := by
  obtain ⟨hc, ht, hh⟩ := (r.fits_iff cw).mp h
  have lower := r.image_mod cw
  have upper := r.image_above_hyst cw
  have c := (mod_eq_field (r.image_above_lower cw)).trans (Nat.mod_eq_of_lt hc)
  have trip := (mod_eq_field (r.image_above_c cw)).trans (Nat.mod_eq_of_lt ht)
  have hyst := (mod_eq_field (r.image_above_trip cw)).trans (Nat.mod_eq_of_lt hh)
  cases r
  simp only [Request.ofImage, Request.mk.injEq, BitVec.toNat_eq, BitVec.toNat_ofNat, Request.lowerImage,
    Request.upperImage, div_two_pow_add _ _ (3 * cw)] at lower upper c trip hyst ⊢
  refine ⟨?_, ?_, ?_, c, trip, hyst, ?_, ?_, ?_, ?_, ?_, ?_, ?_, ?_, ?_, ?_, ?_⟩ <;> omega

theorem Request.lowerImage_ofImage : (Request.ofImage cw w).lowerImage = w % 2 ^ 20 := by
  simp only [Request.lowerImage, Request.ofImage, BitVec.toNat_ofNat]
  omega

theorem Request.upperImage_ofImage : (Request.ofImage cw w).upperImage = w / 2 ^ (20 + 3 * cw) % 2 ^ 21 := by
  simp only [Request.upperImage, Request.ofImage, BitVec.toNat_ofNat, div_two_pow_add w _ (3 * cw)]
  omega

theorem imageWidth_eq : imageWidth cw = 21 + (20 + 3 * cw) := by
  unfold imageWidth
  omega

theorem Request.image_lt : r.image cw < 2 ^ imageWidth cw := by
  rw [imageWidth_eq, pow_add, ← Nat.div_lt_iff_lt_mul (by positivity), r.image_above_hyst cw]
  exact r.upperImage_lt

theorem Request.ofImage_fits : (Request.ofImage cw w).fits cw = true :=
  have fits (x : Nat) : x % 2 ^ cw < 2 ^ cw := Nat.mod_lt x (by positivity)
  (Request.fits_iff cw _).mpr ⟨fits _, fits _, fits _⟩

/-- The three Celsius ports of the request read from `w` and the bits above them are the bits of `w` from bit 20 up. -/
theorem Request.celsius_ofImage : (Request.ofImage cw w).c + 2 ^ cw * ((Request.ofImage cw w).trip +
    2 ^ cw * ((Request.ofImage cw w).hyst + 2 ^ cw * (w / 2 ^ (20 + 3 * cw)))) = w / 2 ^ 20 := by
  rw [show 20 + 3 * cw = cw + (20 + 2 * cw) by omega]
  simp only [Request.ofImage]
  rw [field_add_rest, show 20 + 2 * cw = cw + (20 + cw) by omega, field_add_rest, add_comm 20 cw, field_add_rest]

/-- Log 6: below `imageWidth` every bit is a bit of some port, so none is lost. -/
theorem Request.image_ofImage (h : w < 2 ^ imageWidth cw) : (Request.ofImage cw w).image cw = w := by
  obtain ⟨hc, ht, hh⟩ := (Request.fits_iff cw _).mp (Request.ofImage_fits cw w)
  have upper : w / 2 ^ (20 + 3 * cw) < 2 ^ 21 := by
    rwa [Nat.div_lt_iff_lt_mul (by positivity), ← pow_add, ← imageWidth_eq]
  rw [Request.image_eq, Nat.mod_eq_of_lt hc, Nat.mod_eq_of_lt ht, Nat.mod_eq_of_lt hh, Request.lowerImage_ofImage,
    Request.upperImage_ofImage, Nat.mod_eq_of_lt upper, Request.celsius_ofImage, Nat.mod_add_div]

/-- Settles O2: a request is read back port by port, a number is put together again field by field. -/
theorem imagesAndRequestsCorrespond : Obligations.ImagesAndRequestsCorrespond :=
  ⟨fun cw r h => ⟨r.image_lt cw, r.ofImage_image cw h⟩,
   fun cw w h => ⟨Request.ofImage_fits cw w, Request.image_ofImage cw w h⟩⟩

/-! ## Instructions and their requests -/

/-- The form of every instruction's request, from the laws per instruction. -/
theorem encodeInstr_form : Laws.RequestForm.Statement i := by
  cases i with
  | decode high low => exact Laws.RequestForm.decode high low
  | encode c => exact Laws.RequestForm.encode c
  | resmux res low => exact Laws.RequestForm.resmux res low
  | cfgpack nvb res ft pol tm sd => exact Laws.RequestForm.cfgpack nvb res ft pol tm sd
  | cfgunpack byte => exact Laws.RequestForm.cfgunpack byte
  | busaddr a2 a1 a0 => exact Laws.RequestForm.busaddr a2 a1 a0
  | init a2 a1 a0 res => exact Laws.RequestForm.init a2 a1 a0 res
  | rdtemp ptr => exact Laws.RequestForm.rdtemp ptr
  | therm trip hyst ft => exact Laws.RequestForm.therm trip hyst ft
  | setcfg byte => exact Laws.RequestForm.setcfg byte
  | cmd byte => exact Laws.RequestForm.cmd byte
  | reserved0 => exact Laws.RequestForm.reserved0
  | reservedC => exact Laws.RequestForm.reservedC
  | reservedD => exact Laws.RequestForm.reservedD
  | reservedE => exact Laws.RequestForm.reservedE
  | reservedF => exact Laws.RequestForm.reservedF

@[simp] theorem decodeInstr_encodeInstr : decodeInstr (encodeInstr i) = i := by
  obtain ⟨decodes, -, -⟩ := encodeInstr_form i
  exact decodes

theorem encodeInstr_fits : (encodeInstr i).fits cw = i.wellFormed cw := by
  obtain ⟨-, -, fits⟩ := encodeInstr_form i
  exact fits cw

theorem decodeImage_image (h : r.fits cw = true) : decodeImage cw (r.image cw) = .ok (decodeInstr r) := by
  rw [decodeImage, if_pos (r.image_lt cw), r.ofImage_image cw h]

/-- Settles O1: the instruction's request fits its ports, is read back from its image, and decodes to the
instruction. -/
theorem imageDecodesToItsInstruction : Obligations.ImageDecodesToItsInstruction := by
  intro cw i h
  rw [encodeImage, decodeImage_image cw _ ((encodeInstr_fits cw i).trans h), decodeInstr_encodeInstr]

/-- Settles O5: the images are below the image width, and the ports read from them are the operands. -/
theorem writtenRequestsDecode : Obligations.WrittenRequestsDecode := by
  unfold Obligations.WrittenRequestsDecode
  decide +kernel

/-- The sixteen operation codes (R52, R53). -/
theorem op_cases (op : BitVec 4) :
    op = 0x0 ∨ op = 0x1 ∨ op = 0x2 ∨ op = 0x3 ∨ op = 0x4 ∨ op = 0x5 ∨ op = 0x6 ∨ op = 0x7 ∨
    op = 0x8 ∨ op = 0x9 ∨ op = 0xA ∨ op = 0xB ∨ op = 0xC ∨ op = 0xD ∨ op = 0xE ∨ op = 0xF := by
  revert op
  decide

/-- R52, R53: `op` alone selects the operation, and the operation gives it back. -/
theorem encodeInstr_decodeInstr_op : (encodeInstr (decodeInstr r)).op = r.op := by
  rcases op_cases r.op with e | e | e | e | e | e | e | e | e | e | e | e | e | e | e | e <;>
    simp [decodeInstr, encodeInstr, e]

/-- Settles O3: for each operation code, a port the operation names comes back from its operand, and any other port is
zero in both requests. -/
theorem canonicalRequestIsEncodedInstruction : Obligations.CanonicalRequestIsEncodedInstruction := by
  rintro ⟨op, high, low, c, trip, hyst, res, ft, nvb, pol, tm, sd, byte, a2, a1, a0, ptr⟩ h
  rcases op_cases op with
    rfl | rfl | rfl | rfl | rfl | rfl | rfl | rfl | rfl | rfl | rfl | rfl | rfl | rfl | rfl | rfl
  all_goals
    have unnamed := of_decide_eq_true h
    simp [Request.unnamedPorts, Request.zero] at unnamed
    simp [decodeInstr, encodeInstr, Request.zero, unnamed, Machine.resolution_code_ofCode,
      Machine.faultTolerance_code_ofCode, Machine.pointer_code_ofCode]

end Sys2Proof

namespace Sys2Proof.Machine

variable {s : State} {i : Instr} {r : Request} {rest : List HostInput}

/-! ## Steps on requests -/

/-- R50, R176: with a request in front, a step looks at the operation it decodes to and at whether a read blocks. -/
theorem step_of_presented (hin : s.inputs = .request r :: rest) :
    step s = if s.hung then .fault .readNeverCompletes else exec (decodeInstr r) (s.withInputs rest) := by
  simp [step, takeInput, hin]

/-- Settles O4: the request and the encoding of its instruction decode to the same operation. -/
theorem unnamedPortsAreIgnored : Obligations.UnnamedPortsAreIgnored := by
  intro s r rest hin
  rw [step_of_presented hin, step_of_presented (r := encodeInstr (decodeInstr r)) rfl, decodeInstr_encodeInstr]
  rfl

/-! ## The reserved codes -/

/-- R155: all reserved codes share one meaning. -/
theorem exec_of_isReserved (h : isReserved i = true) (s : State) : exec i s = .next (s.raise .illegalOp 0) := by
  cases i with
  | reserved0 | reservedC | reservedD | reservedE | reservedF => rfl
  | _ => cases h

/-- Settles O41: raising a status writes the response alone. -/
theorem reservedInstructionsAnswerIllegalOp : Obligations.ReservedInstructionsAnswerIllegalOp := by
  rintro i s (rfl | rfl | rfl | rfl | rfl) <;> exact exec_of_isReserved rfl s

/-- R53: an instruction is reserved exactly where its operation code is one of the five. -/
theorem isReserved_iff_encodeInstr_op : isReserved i = true ↔
    ((encodeInstr i).op = 0x0 ∨ (encodeInstr i).op = 0xC ∨ (encodeInstr i).op = 0xD ∨ (encodeInstr i).op = 0xE ∨
      (encodeInstr i).op = 0xF) := by
  cases i <;> simp [isReserved, encodeInstr]

theorem isReserved_decodeInstr_iff (r : Request) : isReserved (decodeInstr r) = true ↔
    (r.op = 0x0 ∨ r.op = 0xC ∨ r.op = 0xD ∨ r.op = 0xE ∨ r.op = 0xF) := by
  rw [isReserved_iff_encodeInstr_op, encodeInstr_decodeInstr_op]

/-- Settles O6: the step runs the request's operation, which is reserved exactly where its code is. -/
theorem reservedCodesAnswerIllegalOp : Obligations.ReservedCodesAnswerIllegalOp := by
  refine ⟨fun s r rest hh hin op => ?_, fun r => (isReserved_decodeInstr_iff r).mp⟩
  rw [step_of_request hh hin, exec_of_isReserved ((isReserved_decodeInstr_iff r).mpr op)]
  rfl

end Sys2Proof.Machine
end

section
/-! The codec family, the two bytes as numbers (41_temperature_codec.md): DECODE as a sign times a magnitude of
sixteenths, and what a masked byte keeps. -/

namespace Sys2Proof.Machine

variable {cw fw : Nat} {high low high' low' : Byte}

/-! ## The widths -/

/-- R4: the constraint on the widths, in numbers. -/
theorem paramsWellFormed_iff : paramsWellFormed cw fw = true ↔ 4 ≤ fw ∧ fw + 9 ≤ cw := by
  simp [paramsWellFormed]

/-- R6: one degree is sixteen sixteenths. -/
theorem two_pow_eq_sixteen_mul (hf : 4 ≤ fw) : 2 ^ fw = 16 * 2 ^ (fw - 4) := by
  rw [show 16 = 2 ^ 4 from rfl, ← pow_add, Nat.add_sub_cancel' hf]

/-! ## Masked bytes -/

/-- A mask of high bits cuts a byte down to a multiple of its lowest bit. -/
theorem toNat_and_highBits (b : Byte) (i : Nat) : (b &&& 0xFF#8 <<< i).toNat = b.toNat / 2 ^ i * 2 ^ i := by
  have ones : 0xFF#8 = BitVec.allOnes 8 := by decide
  have shifts : b &&& 0xFF#8 <<< i = b >>> i <<< i := by
    ext j hj
    have set : (0xFF#8).getLsbD (j - i) = true := by
      rw [ones, BitVec.getLsbD_allOnes, decide_eq_true_iff]
      omega
    by_cases hij : j < i
    · simp [hij]
    · simp [hij, set, ← BitVec.getLsbD_eq_getElem, Nat.add_sub_cancel' (Nat.le_of_not_lt hij), Bool.and_comm]
  have small : b.toNat / 2 ^ i * 2 ^ i < 2 ^ 8 := (Nat.div_mul_le_self _ _).trans_lt b.isLt
  rw [shifts, BitVec.toNat_shiftLeft, BitVec.toNat_ushiftRight, Nat.shiftRight_eq_div_pow, Nat.shiftLeft_eq,
    Nat.mod_eq_of_lt small]

theorem toNat_and_highNibble (b : Byte) : (b &&& 0xF0).toNat = b.toNat / 16 * 16 :=
  toNat_and_highBits b 4

theorem toNat_and_lowNibble (b : Byte) : (b &&& 0x0F).toNat = b.toNat % 16 :=
  (BitVec.toNat_and b 0x0F).trans (Nat.and_two_pow_sub_one_eq_mod b.toNat 4)

theorem toNat_and_lowSevenBits (b : Byte) : (b &&& 0x7F).toNat = b.toNat % 128 :=
  (BitVec.toNat_and b 0x7F).trans (Nat.and_two_pow_sub_one_eq_mod b.toNat 7)

theorem toNat_or_signBit (b : Byte) : (b ||| 0x80).toNat = 128 + b.toNat % 128 := by
  revert b
  decide

/-! ## The signed sixteenths -/

/-- R80, R81: the sign bit and the magnitude, by the numbers of the two bytes. -/
theorem decodeSixteenths_eq (high low : Byte) :
    decodeSixteenths high low = (if high.toNat < 128 then 1 else -1) * (decodeMagnitude high low : Int) := by
  unfold decodeSixteenths
  rw [signBit_eq]
  by_cases h : high.toNat < 128
  · simp [h]
  · simp [h, Nat.le_of_not_lt h]

@[simp] theorem natAbs_decodeSixteenths (high low : Byte) :
    (decodeSixteenths high low).natAbs = decodeMagnitude high low := by
  rw [decodeSixteenths_eq]
  split <;> simp

/-- R83: the port carries the signed sixteenths whole. -/
theorem toInt_decodeValue (hp : paramsWellFormed cw fw = true) (high low : Byte) :
    (decodeValue cw fw high low).toInt = decodeSixteenths high low * 2 ^ (fw - 4) := by
  obtain ⟨hf, hc⟩ := paramsWellFormed_iff.mp hp
  have size : (decodeSixteenths high low * 2 ^ (fw - 4)).natAbs < 2 ^ (cw - 1) := by
    calc (decodeSixteenths high low * 2 ^ (fw - 4)).natAbs
        = decodeMagnitude high low * 2 ^ (fw - 4) := by simp [Int.natAbs_mul, Int.natAbs_pow]
      _ < 2 ^ 11 * 2 ^ (fw - 4) := Nat.mul_lt_mul_of_pos_right (decodeMagnitude_lt high low) (Nat.two_pow_pos _)
      _ = 2 ^ (11 + (fw - 4)) := (pow_add 2 11 _).symm
      _ ≤ 2 ^ (cw - 1) := Nat.pow_le_pow_right (by decide) (by omega)
  have cast : ((2 ^ (cw - 1) : Nat) : Int) = 2 ^ (cw - 1) := Nat.cast_pow 2 _
  exact BitVec.toInt_ofInt_eq_self (by omega) (by omega) (by omega)

theorem natAbs_toInt_decodeValue (hp : paramsWellFormed cw fw = true) (high low : Byte) :
    (decodeValue cw fw high low).toInt.natAbs = decodeMagnitude high low * 2 ^ (fw - 4) := by
  simp [toInt_decodeValue hp, Int.natAbs_mul, Int.natAbs_pow]

/-- R82: pairs with one decoded value have one signed count of sixteenths. -/
theorem decodeValue_eq_iff (hp : paramsWellFormed cw fw = true) :
    decodeValue cw fw high low = decodeValue cw fw high' low' ↔
      decodeSixteenths high low = decodeSixteenths high' low' := by
  rw [← BitVec.toInt_inj, toInt_decodeValue hp, toInt_decodeValue hp, mul_left_inj' (by positivity)]

/-! ## DECODE -/

/-- Settles O12: the port carries the sixteenths whole, and the response is all that is written. -/
theorem decodeAnswersSignedSixteenths : Obligations.DecodeAnswersSignedSixteenths := by
  intro high low s hp
  refine ⟨decodeValue s.params.cw s.params.fw high low, rfl, ?_⟩
  rw [toInt_decodeValue hp, decodeSixteenths_eq, decodeMagnitude_eq]

/-- Settles O13: the magnitude is below 2048, and the port's pattern is its multiple of 2^(FW-4), cut at a higher
power. -/
theorem decodedValueFitsEveryLegalPort : Obligations.DecodedValueFitsEveryLegalPort := by
  intro cw fw high low hp
  obtain ⟨hf, hc⟩ := paramsWellFormed_iff.mp hp
  have bound : decodeMagnitude high low ≤ 2047 := Nat.le_of_lt_succ (decodeMagnitude_lt high low)
  refine ⟨by rwa [natAbs_decodeSixteenths], toInt_decodeValue hp high low, ?_, ?_, ?_⟩
  · rw [natAbs_toInt_decodeValue hp]
    exact Nat.mul_le_mul_right _ bound
  · have := Nat.two_pow_pos (fw - 4)
    rw [pow_add, two_pow_eq_sixteen_mul hf]
    omega
  · have pattern : ((decodeValue cw fw high low).toNat : Int) =
        decodeSixteenths high low * 2 ^ (fw - 4) % (2 ^ cw : Nat) := by
      rw [decodeValue, BitVec.toNat_ofInt, Int.toNat_of_nonneg (Int.emod_nonneg _ (by positivity))]
    have cut : (2 ^ (fw - 4) : Int) ∣ ((2 ^ cw : Nat) : Int) := by
      rw [Nat.cast_pow]
      exact pow_dvd_pow 2 (by omega)
    apply Nat.mod_eq_zero_of_dvd
    rw [← Int.natCast_dvd_natCast, pattern, Nat.cast_pow]
    exact (EuclideanDomain.dvd_mod_iff cut).mpr (dvd_mul_left _ _)

/-- Settles O14: the two bytes with the sign bit clear and set have one magnitude and opposite signs. -/
theorem signAppliesToTheWholeMagnitude : Obligations.SignAppliesToTheWholeMagnitude := by
  intro cw fw high low hp
  have clear : decodeSixteenths (high &&& 0x7F) low = decodeMagnitude high low := by
    rw [decodeSixteenths_eq, decodeMagnitude_eq, decodeMagnitude_eq, toNat_and_lowSevenBits]
    simp [Nat.mod_lt]
  have set : decodeSixteenths (high ||| 0x80) low = -decodeMagnitude high low := by
    rw [decodeSixteenths_eq, decodeMagnitude_eq, decodeMagnitude_eq, toNat_or_signBit]
    simp
  rw [toInt_decodeValue hp, toInt_decodeValue hp, clear, set]
  exact ⟨by positivity, Int.neg_mul _ _⟩

/-- R82: the low nibble enters no magnitude. -/
theorem decodeSixteenths_and_highNibble (high low : Byte) :
    decodeSixteenths high (low &&& 0xF0) = decodeSixteenths high low := by
  rw [decodeSixteenths_eq, decodeSixteenths_eq, decodeMagnitude_eq, decodeMagnitude_eq, toNat_and_highNibble,
    Nat.mul_div_cancel _ (by decide)]

/-- R82: a pair without its low nibble is its sign and its magnitude, and only at magnitude zero is the sign lost. -/
theorem decodeSixteenths_inj (hl : low.toNat % 16 = 0) (hl' : low'.toNat % 16 = 0)
    (hz : ¬(high.toNat = 128 ∧ low.toNat = 0)) (hz' : ¬(high'.toNat = 128 ∧ low'.toNat = 0))
    (he : decodeSixteenths high low = decodeSixteenths high' low') : high = high' ∧ low = low' := by
  rw [decodeSixteenths_eq, decodeSixteenths_eq, decodeMagnitude_eq, decodeMagnitude_eq] at he
  have := high.isLt
  have := high'.isLt
  have numbers : high.toNat = high'.toNat ∧ low.toNat = low'.toNat := by
    split at he <;> split at he <;> omega
  exact numbers.imp BitVec.eq_of_toNat_eq BitVec.eq_of_toNat_eq

/-- Settles O15: both clauses are about the signed sixteenths, which the port carries whole. -/
theorem decodeIsInjectiveUpToTheLowNibble : Obligations.DecodeIsInjectiveUpToTheLowNibble := by
  intro cw fw hp
  refine ⟨fun high low => (decodeValue_eq_iff hp).mpr (decodeSixteenths_and_highNibble high low).symm, ?_⟩
  intro high low high' low' hl hl' hz hz' he
  have nibble {b : Byte} (h : b &&& 0x0F = 0) : b.toNat % 16 = 0 := by rw [← toNat_and_lowNibble, h]; rfl
  have zero {h l : Byte} (hz : ¬(h = 0x80 ∧ l = 0x00)) : ¬(h.toNat = 128 ∧ l.toNat = 0) :=
    fun z => hz (z.imp BitVec.eq_of_toNat_eq BitVec.eq_of_toNat_eq)
  exact decodeSixteenths_inj (nibble hl) (nibble hl') (zero hz) (zero hz') ((decodeValue_eq_iff hp).mp he)

/-! ## RESMUX -/

/-- Settles O21: the columns of the table of R88 are the functions RESMUX runs, and no field of the state enters them. -/
theorem resmuxAnswersTheTable : Obligations.ResmuxAnswersTheTable := by
  intro res low s
  refine ⟨resmuxNfrac res, resmuxMask res, rfl, ?_⟩
  cases res <;> decide

/-- R88: the mask keeps the bits from the resolution's last fraction bit up. -/
theorem resmuxMask_eq (res : Resolution) : resmuxMask res = 0xFF#8 <<< (16 - bitsOf res) := by
  cases res <;> decide

/-- R89: the mask cuts the magnitude to a multiple of the resolution's step, 2^(12-bits) sixteenths. -/
theorem decodeMagnitude_resmuxLow (res : Resolution) (high low : Byte) :
    decodeMagnitude high (resmuxLow res low) =
      decodeMagnitude high low / 2 ^ (12 - bitsOf res) * 2 ^ (12 - bitsOf res) := by
  rw [decodeMagnitude_eq, decodeMagnitude_eq, resmuxLow, resmuxMask_eq, toNat_and_highBits]
  cases res <;> simp only [bitsOf] <;> omega

/-- Settles O22: the sign stands, and the step on the port is the step in sixteenths times 2^(FW-4). -/
theorem maskedDecodeTruncatesToTheStep : Obligations.MaskedDecodeTruncatesToTheStep := by
  intro cw fw res high low hp
  obtain ⟨hf, -⟩ := paramsWellFormed_iff.mp hp
  have step : 2 ^ (fw - (bitsOf res - 8)) = 2 ^ (12 - bitsOf res) * 2 ^ (fw - 4) := by
    rw [← pow_add]
    congr 1
    cases res <;> simp only [bitsOf] <;> omega
  rw [toInt_decodeValue hp, decodeSixteenths_eq, decodeMagnitude_resmuxLow, natAbs_toInt_decodeValue hp, step,
    Nat.mul_div_mul_right _ _ (Nat.two_pow_pos _), mul_assoc, ← Nat.mul_assoc]
  push_cast
  rfl

end Sys2Proof.Machine
end

section
/-! The codec family, ENCODE (R84 to R87): the greedy loop by what each of its lines keeps, the two bytes as numbers, and
the range check. -/

namespace Sys2Proof.Machine

variable {fw : Nat} {n : Int}

/-! ## The greedy loop -/

/-- What holds of the remainder and the byte before the loop's line for the weight `2 ^ (j - 1)` sixteenths (after its
last line for `j = 0`), where a sixteenth is `q` and the fraction is `r`: the remainder is below twice that weight, the
byte has no bit yet at or below that line's, and the two together still make up the fraction. -/
structure GreedyKeeps (q r j : Nat) (x : Nat × Byte) : Prop where
  rest : x.1 < q * 2 ^ j
  bits : 2 ^ (j + 4) ∣ x.2.toNat
  whole : 16 * x.1 + q * x.2.toNat = 16 * r

/-- A bit below all the bits of a byte adds its weight. -/
theorem toNat_or_twoPow {b : Byte} {i : Nat} (hi : i < 8) (hb : 2 ^ (i + 1) ∣ b.toNat) :
    (b ||| BitVec.twoPow 8 i).toNat = b.toNat + 2 ^ i := by
  obtain ⟨a, ha⟩ := hb
  rw [BitVec.toNat_or, BitVec.toNat_twoPow_of_lt hi, ha,
    Nat.two_pow_add_eq_or_of_lt (Nat.pow_lt_pow_right (by decide) (Nat.lt_succ_self i))]

/-- R84: one line of the loop keeps it, whether it takes its weight or not. -/
theorem GreedyKeeps.takeWeight {q r j weight : Nat} {x : Nat × Byte} (keeps : GreedyKeeps q r (j + 1) x) (hj : j < 4)
    (hw : weight = q * 2 ^ j) : GreedyKeeps q r j (takeWeight weight (BitVec.twoPow 8 (j + 4)) x) := by
  obtain ⟨rest, bits, whole⟩ := keeps
  have bits : 2 ^ (j + 4 + 1) ∣ x.2.toNat := by rwa [Nat.add_right_comm]
  have lower : 2 ^ (j + 4) ∣ x.2.toNat := (pow_dvd_pow 2 (Nat.le_succ _)).trans bits
  rw [pow_succ, ← mul_assoc, ← hw] at rest
  rcases takeWeight_cases weight (BitVec.twoPow 8 (j + 4)) x with ⟨le, e⟩ | ⟨lt, e⟩ <;> rw [e]
  · have sum := toNat_or_twoPow (by omega) bits
    refine ⟨?_, ?_, ?_⟩ <;> dsimp only
    · omega
    · rw [sum]
      exact dvd_add lower dvd_rfl
    · rw [sum, pow_add, mul_add, ← mul_assoc q, ← hw]
      omega
  · exact ⟨hw ▸ lt, lower, whole⟩

/-- R87: the loop's byte is the fraction in whole sixteenths, in the high nibble. -/
theorem toNat_greedyLow (hf : 4 ≤ fw) {r : Nat} (hr : r < 2 ^ fw) :
    (greedyLow fw r).toNat = 16 * (r / 2 ^ (fw - 4)) := by
  have start : GreedyKeeps (2 ^ (fw - 4)) r 4 (r, 0x00) :=
    ⟨by rwa [← pow_add, Nat.sub_add_cancel hf], dvd_zero _, rfl⟩
  have weight {j k : Nat} (h : k + j = 4) : 2 ^ (fw - k) = 2 ^ (fw - 4) * 2 ^ j := by
    rw [← pow_add]
    congr 1
    omega
  have half := start.takeWeight (by decide) (weight (k := 1) rfl)
  have quarter := half.takeWeight (by decide) (weight (k := 2) rfl)
  have eighth := quarter.takeWeight (by decide) (weight (k := 3) rfl)
  obtain ⟨rest, ⟨a, ha⟩, whole⟩ := eighth.takeWeight (by decide) (weight (k := 4) rfl)
  have byte : (greedyLow fw r).toNat = 16 * a := ha
  rw [ha, Nat.mul_left_comm] at whole
  rw [pow_zero, mul_one] at rest
  have sum := Nat.eq_of_mul_eq_mul_left (by decide) ((Nat.mul_add 16 _ _).trans whole)
  rw [byte, ← sum, Nat.add_mul_div_left _ _ (Nat.two_pow_pos _), Nat.div_eq_of_lt rest, Nat.zero_add]

/-! ## The two bytes -/

/-- R87: the low byte is the sixteenths of the fraction, truncated. -/
theorem toNat_encodeLow (hf : 4 ≤ fw) (n : Int) :
    (encodeLow fw n).toNat = 16 * (n.natAbs / 2 ^ (fw - 4) % 16) := by
  have fraction : n.natAbs - n.natAbs >>> fw <<< fw = n.natAbs % 2 ^ fw := by
    rw [Nat.shiftRight_eq_div_pow, Nat.shiftLeft_eq, Nat.mul_comm, Nat.mod_eq_sub]
  rw [encodeLow, fraction, toNat_greedyLow hf (Nat.mod_lt _ (Nat.two_pow_pos fw)), two_pow_eq_sixteen_mul hf,
    Nat.mul_comm 16 (2 ^ _), Nat.mod_mul_right_div_self]

/-- R84: an accepted operand's integer part has seven bits. -/
theorem natAbs_div_lt (lower : -55 * 2 ^ fw ≤ n) (upper : n ≤ 125 * 2 ^ fw) : n.natAbs / 2 ^ fw < 128 := by
  have cast : ((2 ^ fw : Nat) : Int) = 2 ^ fw := Nat.cast_pow 2 fw
  have := Nat.two_pow_pos fw
  rw [Nat.div_lt_iff_lt_mul this]
  omega

/-- R87: the high byte is the sign bit above the integer part. -/
theorem toNat_encodeHigh (lower : -55 * 2 ^ fw ≤ n) (upper : n ≤ 125 * 2 ^ fw) :
    (encodeHigh fw n).toNat = (if n < 0 then 128 else 0) + n.natAbs / 2 ^ fw := by
  have small : n.natAbs / 2 ^ fw < 2 ^ 7 := natAbs_div_lt lower upper
  have byte : (BitVec.ofNat 8 (n.natAbs >>> fw)).toNat = n.natAbs / 2 ^ fw := by
    rw [Nat.shiftRight_eq_div_pow, BitVec.toNat_ofNat, Nat.mod_eq_of_lt (by omega)]
  rw [encodeHigh, BitVec.toNat_or, byte]
  split
  · exact (Nat.two_pow_add_eq_or_of_lt small 1).symm
  · simp

/-- R87: the two bytes hold the magnitude in whole sixteenths. -/
theorem decodeMagnitude_encode (hf : 4 ≤ fw) (lower : -55 * 2 ^ fw ≤ n) (upper : n ≤ 125 * 2 ^ fw) :
    decodeMagnitude (encodeHigh fw n) (encodeLow fw n) = n.natAbs / 2 ^ (fw - 4) := by
  have small := natAbs_div_lt lower upper
  have nested : n.natAbs / 2 ^ fw = n.natAbs / 2 ^ (fw - 4) / 16 := by
    rw [Nat.div_div_eq_div_mul, two_pow_eq_sixteen_mul hf, Nat.mul_comm]
  rw [nested] at small
  rw [decodeMagnitude_eq, toNat_encodeHigh lower upper, toNat_encodeLow hf, nested]
  generalize n.natAbs / 2 ^ (fw - 4) = m at small ⊢
  split <;> omega

/-! ## ENCODE -/

/-- Settles O16: the range check passes, and the two bytes are those of the closed form. -/
theorem encodeAnswersSignMagnitudeBytes : Obligations.EncodeAnswersSignMagnitudeBytes := by
  rintro c n s hp rfl lower upper
  obtain ⟨hf, -⟩ := paramsWellFormed_iff.mp hp
  refine ⟨_, _, ?_, toNat_encodeHigh lower upper, toNat_encodeLow hf _⟩
  exact congrArg Host.Outcome.next (if_pos ((inRange_iff _ _).mpr ⟨lower, upper⟩))

/-- Settles O17: by the range check, which is the whole condition for OK. -/
theorem encodeChecksTheRange : Obligations.EncodeChecksTheRange := by
  rintro c n s rfl
  rw [← inRange_iff]
  by_cases h : inRange s.params.fw (sintOf s.params.cw c) = true
  · exact ⟨_, congrArg Host.Outcome.next (if_pos h), iff_of_true rfl h, fun out => absurd h out⟩
  · exact ⟨_, congrArg Host.Outcome.next (if_neg h), iff_of_false (by decide) h, fun _ => rfl⟩

/-- Settles O18: the shifts are the quotients of the two bytes' numbers. -/
theorem greedyLoopIsBinaryExpansion : Obligations.GreedyLoopIsBinaryExpansion := by
  intro fw n hf lower upper
  have high := toNat_encodeHigh lower upper
  have low := toNat_encodeLow hf n
  have small : n.natAbs / 2 ^ fw < 2 ^ 7 := natAbs_div_lt lower upper
  simp only [Nat.shiftRight_eq_div_pow]
  refine ⟨?_, ?_, ?_, ?_⟩
  · rw [low, Nat.shiftLeft_eq, two_pow_eq_sixteen_mul hf, Nat.mul_comm 16 (2 ^ _), Nat.mod_mul_right_div_self,
      Nat.mul_comm]
  · rw [high]
    split
    · exact Nat.two_pow_add_eq_or_of_lt small 1
    · exact (Nat.zero_add _).trans (Nat.zero_or _).symm
  · rw [← decodeMagnitude_eq, decodeMagnitude_encode hf lower upper]
  · rw [low]
    exact Nat.mul_mod_right 16 _

end Sys2Proof.Machine
end

section
/-! The codec family, ENCODE and DECODE one after the other (R92, R93). -/

namespace Sys2Proof.Machine

variable {cw fw : Nat} {n : Int}

/-! ## ENCODE, then DECODE -/

/-- R92 (a): the sign bit and the magnitude that ENCODE writes; where the magnitude is zero the sign is lost. -/
theorem decodeSixteenths_encode (hf : 4 ≤ fw) (lower : -55 * 2 ^ fw ≤ n) (upper : n ≤ 125 * 2 ^ fw) :
    decodeSixteenths (encodeHigh fw n) (encodeLow fw n) = n.sign * (n.natAbs / 2 ^ (fw - 4) : Nat) := by
  have small := natAbs_div_lt lower upper
  rw [decodeSixteenths_eq, decodeMagnitude_encode hf lower upper, toNat_encodeHigh lower upper]
  rcases lt_trichotomy n 0 with neg | rfl | pos
  · simp [neg, Int.sign_eq_neg_one_of_neg neg]
  · simp
  · simp [pos.not_gt, small, Int.sign_eq_one_of_pos pos]

/-- Settles O19: the magnitude loses its remainder by 2^(FW-4), which is all that DECODE does not give back. -/
theorem encodeThenDecodeTruncatesTowardZero : Obligations.EncodeThenDecodeTruncatesTowardZero := by
  intro cw fw n hp lower upper d
  obtain ⟨hf, -⟩ := paramsWellFormed_iff.mp hp
  have unit : n.sign.natAbs ≤ 1 := by rw [Int.natAbs_sign]; split <;> decide
  have value : d = n.sign * (n.natAbs / 2 ^ (fw - 4) * 2 ^ (fw - 4) : Nat) := by
    rw [Nat.cast_mul, ← mul_assoc, ← decodeSixteenths_encode hf lower upper]
    exact (toInt_decodeValue hp _ _).trans (by push_cast; rfl)
  have rest : n - d = n.sign * (n.natAbs % 2 ^ (fw - 4) : Nat) := by
    have split :
        (n.natAbs : Int) = (n.natAbs % 2 ^ (fw - 4) : Nat) + (n.natAbs / 2 ^ (fw - 4) * 2 ^ (fw - 4) : Nat) := by
      rw [← Nat.cast_add, Nat.mul_comm, Nat.mod_add_div]
    rw [value, sub_eq_iff_eq_add, ← mul_add, ← split, Int.sign_mul_natAbs]
  refine ⟨?_, ?_, ?_⟩
  · rw [value, Nat.shiftRight_eq_div_pow, Nat.shiftLeft_eq]
  · rw [value, Int.natAbs_mul, Int.natAbs_natCast]
    exact (mul_le_of_le_one_left (Nat.zero_le _) unit).trans (Nat.div_mul_le_self _ _)
  · rw [rest, Int.natAbs_mul, Int.natAbs_natCast]
    exact (mul_le_of_le_one_left (Nat.zero_le _) unit).trans_lt (Nat.mod_lt _ (Nat.two_pow_pos _))

/-! ## DECODE, then ENCODE -/

/-- R85: the bounds on a decoded value, in sixteenths. -/
theorem inRange_decodeValue (hp : paramsWellFormed cw fw = true) (high low : Byte) :
    inRange fw (decodeValue cw fw high low).toInt = true ↔
      -880 ≤ decodeSixteenths high low ∧ decodeSixteenths high low ≤ 2000 := by
  obtain ⟨hf, -⟩ := paramsWellFormed_iff.mp hp
  have degree : (2 : Int) ^ fw = 16 * 2 ^ (fw - 4) := mod_cast two_pow_eq_sixteen_mul hf
  have pos : (0 : Int) < 2 ^ (fw - 4) := by positivity
  rw [inRange_iff, toInt_decodeValue hp, degree, ← mul_assoc, ← mul_assoc, mul_le_mul_iff_left₀ pos,
    mul_le_mul_iff_left₀ pos]
  rfl

/-- R92 (c): encoding a decoded value keeps its signed sixteenths. -/
theorem decodeSixteenths_encode_decodeValue (hp : paramsWellFormed cw fw = true) {high low : Byte}
    (lower : -55 * 2 ^ fw ≤ (decodeValue cw fw high low).toInt)
    (upper : (decodeValue cw fw high low).toInt ≤ 125 * 2 ^ fw) :
    decodeSixteenths (encodeHigh fw (decodeValue cw fw high low).toInt)
      (encodeLow fw (decodeValue cw fw high low).toInt) = decodeSixteenths high low := by
  obtain ⟨hf, -⟩ := paramsWellFormed_iff.mp hp
  have sign : (decodeValue cw fw high low).toInt.sign = (decodeSixteenths high low).sign := by
    rw [toInt_decodeValue hp, Int.sign_mul, Int.sign_eq_one_of_pos (a := 2 ^ (fw - 4)) (by positivity), mul_one]
  rw [decodeSixteenths_encode hf lower upper, sign, natAbs_toInt_decodeValue hp,
    Nat.mul_div_cancel _ (Nat.two_pow_pos _), ← natAbs_decodeSixteenths, Int.sign_mul_natAbs]

/-- R93: a decoded value is negative where the sign bit is set, the negative zero excepted. -/
theorem toInt_decodeValue_neg_iff (hp : paramsWellFormed cw fw = true) (high low : Byte) :
    (decodeValue cw fw high low).toInt < 0 ↔ 128 ≤ high.toNat ∧ ¬(high = 0x80 ∧ low.toNat < 16) := by
  have zero : high = 0x80 ↔ high.toNat = 128 := BitVec.toNat_inj.symm
  have pos : (0 : Int) < 2 ^ (fw - 4) := by positivity
  have := high.isLt
  rw [toInt_decodeValue hp, ← zero_mul (2 ^ (fw - 4)), mul_lt_mul_iff_left₀ pos, decodeSixteenths_eq,
    decodeMagnitude_eq, zero]
  split <;> omega

/-- R92 (c): the low byte comes back without its low nibble. -/
theorem encodeLow_decodeValue (hp : paramsWellFormed cw fw = true) (high low : Byte) :
    encodeLow fw (decodeValue cw fw high low).toInt = low &&& 0xF0 := by
  obtain ⟨hf, -⟩ := paramsWellFormed_iff.mp hp
  apply BitVec.eq_of_toNat_eq
  rw [toNat_encodeLow hf, toNat_and_highNibble, natAbs_toInt_decodeValue hp,
    Nat.mul_div_cancel _ (Nat.two_pow_pos _), decodeMagnitude_eq]
  have := low.isLt
  omega

/-- R92 (c): the high byte comes back, its sign bit too where the value is not zero. -/
theorem encodeHigh_decodeValue (hp : paramsWellFormed cw fw = true) {high low : Byte}
    (accepted : inRange fw (decodeValue cw fw high low).toInt = true) :
    encodeHigh fw (decodeValue cw fw high low).toInt = if high = 0x80 ∧ low.toNat < 16 then 0x00 else high := by
  obtain ⟨hf, -⟩ := paramsWellFormed_iff.mp hp
  obtain ⟨lower, upper⟩ := (inRange_iff _ _).mp accepted
  apply BitVec.eq_of_toNat_eq
  rw [toNat_encodeHigh lower upper, natAbs_toInt_decodeValue hp, two_pow_eq_sixteen_mul hf,
    Nat.mul_div_mul_right _ _ (Nat.two_pow_pos _), decodeMagnitude_eq]
  simp only [toInt_decodeValue_neg_iff hp]
  have := high.isLt
  have := low.isLt
  by_cases zero : high = 0x80 ∧ low.toNat < 16
  · simp [zero, Nat.div_eq_of_lt zero.2]
  · simp only [zero, not_false_eq_true, and_true, if_false]
    split <;> omega

/-- Settles O20: the range in sixteenths, the two bytes that come back, and the sixteenths they keep. -/
theorem decodeThenEncodeRestoresTheBytes : Obligations.DecodeThenEncodeRestoresTheBytes := by
  intro cw fw high low hp n
  refine ⟨?_, fun accepted => ⟨?_, ?_⟩⟩
  · rw [inRange_decodeValue hp, decodeSixteenths_eq, decodeMagnitude_eq]
    have := high.isLt
    have := low.isLt
    split <;> omega
  · rw [encodeHigh_decodeValue hp accepted, encodeLow_decodeValue hp]
    split
    next zero =>
      have nibble : low &&& 0xF0 = 0x00 := BitVec.eq_of_toNat_eq <| by
        rw [toNat_and_highNibble, Nat.div_eq_of_lt zero.2]
        rfl
      rw [nibble]
    · rfl
  · obtain ⟨lower, upper⟩ := (inRange_iff _ _).mp accepted
    exact (decodeValue_eq_iff hp).mpr (decodeSixteenths_encode_decodeValue hp lower upper)

end Sys2Proof.Machine
end

section
/-! The codec family, RDTEMP and the cached byte (R90): a bus event and what follows it commute with writing the
handle. -/

namespace Sys2Proof.Machine

variable {h h' : Handle}

/-- A continuation that commutes with writing the handle does so after a write event, whatever its outcome. -/
theorem orTransport_withHandle (e : Config.WriteOutcome × State) (i : BitVec 3) {k : State → State}
    (hk : ∀ t, k (t.withHandle h) = (k t).withHandle h) :
    orTransport (e.1, e.2.withHandle h) i k = (orTransport e i k).withHandle h := by
  obtain ⟨_ | _, t⟩ := e
  · exact hk t
  · rfl

/-- The same after a read event. -/
theorem orReadFailure_withHandle (e : Config.ReadOutcome × State) {k : Byte → Byte → State → State}
    (hk : ∀ b1 b2 t, k b1 b2 (t.withHandle h) = (k b1 b2 t).withHandle h) :
    orReadFailure (e.1, e.2.withHandle h) k = (orReadFailure e k).withHandle h := by
  obtain ⟨⟨b1, b2⟩ | _ | _, t⟩ := e
  · exact hk b1 b2 t
  · rfl
  · rfl

/-- R90, R116: of the handle RDTEMP uses the address alone. -/
theorem rdtempRun_withHandle (p : Pointer) (hb : h'.busAddr = h.busAddr) (s : State) :
    rdtempRun p h' (s.withHandle h') = (rdtempRun p h s).withHandle h' := by
  by_cases hp : p = .config
  · subst hp
    rfl
  · rw [rdtempRun_of_ne_config hp, rdtempRun_of_ne_config hp, State.selectRegister_eq, hb]
    exact orTransport_withHandle (s.selectRegister h p) 0 fun t =>
      orReadFailure_withHandle (t.busRead h.busAddr) fun _ _ _ => rfl

/-- Settles O50: past the gate, which both states pass, RDTEMP commutes with the change of the cache. -/
theorem resolutionEntersNoReading : Obligations.ResolutionEntersNoReading := by
  intro p s h b handle
  refine ⟨rdtempRun p h s, congrArg Host.Outcome.next (s.whenInit_some _ handle), congrArg Host.Outcome.next ?_⟩
  exact (State.whenInit_some _ _ rfl).trans (rdtempRun_withHandle p rfl s)

end Sys2Proof.Machine
end

section
/-! The configuration byte (R15, R100 to R103): the packed fields stand side by side, so the byte is their sum. -/

namespace Sys2Proof.Machine

/-! ## The byte as a number -/

/-- Two fields that stand side by side make up one longer field. -/
theorem shiftLeft_or_zeroExtend {m n : Nat} (x : BitVec m) (y : BitVec n) :
    x.zeroExtend 8 <<< n ||| y.zeroExtend 8 = (x ++ y).zeroExtend 8 := by
  ext i hi
  by_cases h : i < n
  · simp [h, BitVec.getLsbD_append]
  · simp [h, BitVec.getLsbD_append, BitVec.getLsbD_of_ge y i (Nat.le_of_not_lt h)]

/-- R100: fields side by side do not overlap, so the longer field's number is a weighted sum. -/
theorem toNat_append_eq {m n : Nat} (x : BitVec m) (y : BitVec n) :
    (x ++ y).toNat = 2 ^ n * x.toNat + y.toNat := by
  rw [BitVec.toNat_append, ← Nat.shiftLeft_add_eq_or_of_lt y.isLt, Nat.shiftLeft_eq, Nat.mul_comm]

/-- R15, R100: the six fields, side by side. -/
theorem packConfig_eq_append (f : ConfigFields) :
    packConfig f = f.nvb ++ (f.res.code ++ (f.ft.code ++ (f.pol ++ (f.tm ++ f.sd)))) := by
  simp only [packConfig, BitVec.or_assoc, shiftLeft_or_zeroExtend]
  exact BitVec.setWidth_eq _

/-- R100: the byte as the sum of its fields by their weights. -/
theorem toNat_packConfig (f : ConfigFields) :
    (packConfig f).toNat =
      128 * f.nvb.toNat + 32 * f.res.code.toNat + 8 * f.ft.code.toNat + 4 * f.pol.toNat + 2 * f.tm.toNat +
        f.sd.toNat := by
  rw [packConfig_eq_append]
  simp only [toNat_append_eq]
  omega

/-- R101: the fields as quotients of the byte by their weights. -/
theorem toNat_unpackConfig (b : Byte) :
    (unpackConfig b).nvb.toNat = b.toNat / 128 ∧ (unpackConfig b).res.code.toNat = b.toNat / 32 % 4 ∧
    (unpackConfig b).ft.code.toNat = b.toNat / 8 % 4 ∧ (unpackConfig b).pol.toNat = b.toNat / 4 % 2 ∧
    (unpackConfig b).tm.toNat = b.toNat / 2 % 2 ∧ (unpackConfig b).sd.toNat = b.toNat % 2 := by
  simp only [unpackConfig, resolution_code_ofCode, faultTolerance_code_ofCode, BitVec.extractLsb'_toNat,
    Nat.shiftRight_eq_div_pow, true_and]
  omega

theorem packConfig_unpackConfig (b : Byte) : packConfig (unpackConfig b) = b := by
  obtain ⟨nvb, res, ft, pol, tm, sd⟩ := toNat_unpackConfig b
  apply BitVec.eq_of_toNat_eq
  rw [toNat_packConfig]
  omega

/-- R102: the sum determines the fields, since each is below the ratio of the weight above it to its own. -/
theorem packConfig_injective : Function.Injective packConfig := by
  rintro ⟨nvb, res, ft, pol, tm, sd⟩ ⟨nvb', res', ft', pol', tm', sd'⟩ h
  have sum := congrArg BitVec.toNat h
  simp only [toNat_packConfig] at sum
  have hres : res.code = res'.code := BitVec.eq_of_toNat_eq (by omega)
  have hft : ft.code = ft'.code := BitVec.eq_of_toNat_eq (by omega)
  have hnvb : nvb = nvb' := BitVec.eq_of_toNat_eq (by omega)
  have hpol : pol = pol' := BitVec.eq_of_toNat_eq (by omega)
  have htm : tm = tm' := BitVec.eq_of_toNat_eq (by omega)
  have hsd : sd = sd' := BitVec.eq_of_toNat_eq (by omega)
  rw [hnvb, hpol, htm, hsd, ← res.ofCode_code, hres, res'.ofCode_code, ← ft.ofCode_code, hft, ft'.ofCode_code]

/-! ## CFGPACK and CFGUNPACK -/

/-- Settles O23: the fields do not overlap, so the byte is their sum. -/
theorem cfgpackAnswersTheByte : Obligations.CfgpackAnswersTheByte :=
  fun _ _ _ _ _ _ _ => ⟨_, rfl, toNat_packConfig _⟩

/-- Settles O24: the fields of the byte are its quotients by their weights. -/
theorem cfgunpackAnswersTheFields : Obligations.CfgunpackAnswersTheFields :=
  fun b _ => ⟨unpackConfig b, rfl, toNat_unpackConfig b⟩

/-- Settles O25: the sum of the weighted quotients is the byte, and the sum determines the fields. -/
theorem packAndUnpackAreInverse : Obligations.PackAndUnpackAreInverse :=
  ⟨packConfig_unpackConfig, fun _ => packConfig_injective (packConfig_unpackConfig _)⟩

/-! ## WITH_FT -/

/-- R103: the mask clears the bits of the fault tolerance and keeps each bit of the other fields. -/
theorem withFt_packConfig (f : ConfigFields) (ft : FaultTolerance) :
    withFt (packConfig f) ft = packConfig { f with ft := ft } := by
  have place : ft.code.zeroExtend 8 <<< 3 = 0#1 ++ (0#2 ++ (ft.code ++ (0#1 ++ (0#1 ++ 0#1)))) := by
    cases ft <;> rfl
  calc withFt (packConfig f) ft
      = f.nvb ++ (f.res.code ++ (f.ft.code ++ (f.pol ++ (f.tm ++ f.sd))))
          &&& BitVec.allOnes 1 ++ (BitVec.allOnes 2 ++ (0#2 ++
            (BitVec.allOnes 1 ++ (BitVec.allOnes 1 ++ BitVec.allOnes 1))))
          ||| 0#1 ++ (0#2 ++ (ft.code ++ (0#1 ++ (0#1 ++ 0#1)))) := by
        rw [withFt, packConfig_eq_append, place]
        rfl
    _ = f.nvb ++ (f.res.code ++ (ft.code ++ (f.pol ++ (f.tm ++ f.sd)))) := by
        simp only [BitVec.and_append, BitVec.or_append, BitVec.and_allOnes, BitVec.and_zero, BitVec.or_zero,
          BitVec.zero_or]
    _ = packConfig { f with ft := ft } := (packConfig_eq_append { f with ft := ft }).symm

/-- R12: masking bit 7 changes no byte in which it is clear. -/
theorem and_lowSevenBits_of_clear {b : Byte} (clear : b &&& 0x80 = 0) : b &&& 0x7F#8 = b :=
  calc b &&& 0x7F#8 = b &&& 0x80 ||| b &&& 0x7F#8 := by rw [clear]; exact (BitVec.zero_or).symm
    _ = b &&& .allOnes 8 := (BitVec.and_or_distrib_left).symm
    _ = b := BitVec.and_allOnes

/-- R20: on a byte whose bit 7 is clear, WITH_FT is the partial update: both clear the field's bits and set them. -/
theorem withFt_eq_updateField {b : Byte} (clear : b &&& 0x80 = 0) (ft : FaultTolerance) :
    withFt b ft = updateField b maskFt 3 ft.code := by
  have kept : b &&& ~~~maskFt &&& 0x7F#8 = b &&& 0xE7#8 := by
    rw [BitVec.and_assoc, BitVec.and_comm (~~~maskFt), ← BitVec.and_assoc, and_lowSevenBits_of_clear clear]
    rfl
  have placed : ft.code.zeroExtend 8 <<< 3 &&& maskFt = ft.code.zeroExtend 8 <<< 3 := by cases ft <;> rfl
  rw [withFt, updateField, kept, placed]

/-- Settles O26: by what WITH_FT makes of packed fields, as every byte is the pack of its own. -/
theorem withFtReplacesOneField : Obligations.WithFtReplacesOneField := by
  intro b ft
  refine ⟨rfl, ?_, fun clear => withFt_eq_updateField clear ft⟩
  rw [← withFt_packConfig, packConfig_unpackConfig]

end Sys2Proof.Machine
end

section
/-! The controller family: INIT, RDTEMP, THERM, SETCFG and CMD under each outcome of their bus events (R110 to R131). Past
the gate each is one of the next states of its list in the laws, and the outcomes select which. -/

namespace Sys2Proof.Machine

variable {s : State} {h : Handle}

/-! ## The gate -/

/-- R111: what the four gated operations share. -/
theorem exec_of_isGated {i : Instr} (gated : isGated i = true) (handle : s.handle = none) :
    exec i s = .next (s.raise .notInit 0) := by
  cases i with
  | rdtemp | therm | setcfg | cmd => exact congrArg _ (s.whenInit_none _ handle)
  | _ => cases gated

theorem exec_rdtemp_of_handle (p : Pointer) (handle : s.handle = some h) :
    exec (.rdtemp p) s = .next (rdtempRun p h s) :=
  congrArg _ (s.whenInit_some _ handle)

theorem exec_setcfg_of_handle (b : Byte) (handle : s.handle = some h) :
    exec (.setcfg b) s = .next (writeConfig h b b 0 s) :=
  congrArg _ (s.whenInit_some _ handle)

theorem exec_cmd_of_handle (b : Byte) (handle : s.handle = some h) : exec (.cmd b) s = .next (cmdRun b h s) :=
  congrArg _ (s.whenInit_some _ handle)

/-! No operation answers NOT_INIT past its gate. -/

theorem initRun_status_ne_notInit (h : Handle) (s : State) :
    (initRun h s).response.map Response.status ≠ some .notInit := by
  rcases initRun_cases s h with ⟨_, e⟩ | ⟨_, e⟩ <;> simp [e]

theorem rdtempRun_status_ne_notInit (p : Pointer) (h : Handle) (s : State) :
    (rdtempRun p h s).response.map Response.status ≠ some .notInit := by
  rcases rdtempRun_cases s p h with
    ⟨_, e⟩ | ⟨_, _, e⟩ | ⟨_, _, _, _, _, e⟩ | ⟨_, _, _, e⟩ | ⟨_, _, _, e⟩ <;> simp [e]

theorem thermWrites_status_ne_notInit (trip hyst : Celsius) (ft : FaultTolerance) (h : Handle) (s : State) :
    (thermWrites trip hyst ft h s).response.map Response.status ≠ some .notInit := by
  rcases thermWrites_cases s trip hyst ft h with ⟨_, e⟩ | ⟨_, _, e⟩ | ⟨_, _, _, e⟩ | ⟨_, _, _, e⟩ <;> simp [e]

theorem writeConfig_status_ne_notInit (h : Handle) (cached sent : Byte) (i : BitVec 3) (s : State) :
    (writeConfig h cached sent i s).response.map Response.status ≠ some .notInit := by
  rcases writeConfig_cases s h cached sent i with ⟨_, e⟩ | ⟨_, e⟩ <;> simp [e]

theorem cmdRun_status_ne_notInit (code : Byte) (h : Handle) (s : State) :
    (cmdRun code h s).response.map Response.status ≠ some .notInit := by
  rcases cmdRun_cases s code h with ⟨_, e⟩ | ⟨_, e⟩ <;> simp [e]

/-- Settles O28: the refusal of each gated operation, and the one entry of the list of next states that answers
NOT_INIT. -/
theorem gatedOperationsNeedInit : Obligations.GatedOperationsNeedInit := by
  refine ⟨fun i s gated done => exec_of_isGated gated (s.initDone_eq_false_iff.mp done), ?_⟩
  intro i s t r he hr status
  have answer : t.response.map Response.status = some .notInit := by rw [hr, ← status]; rfl
  rcases exec_cases i s t he with
    ⟨_, r, _, other, _, rfl⟩ | ⟨gated, handle, rfl⟩ | ⟨_, _, _, _, _, rfl⟩ | ⟨_, _, _, _, rfl⟩ |
    ⟨_, _, _, _, _, _, _, rfl⟩ | ⟨_, _, _, _, _, _, _, rfl⟩ | ⟨_, _, _, _, rfl⟩ | ⟨_, _, _, _, rfl⟩
  · rcases other with e | e | e <;> simp [e] at answer
  · exact ⟨gated, s.initDone_eq_false_iff.mpr handle⟩
  · exact absurd answer (initRun_status_ne_notInit _ s)
  · exact absurd answer (rdtempRun_status_ne_notInit _ _ s)
  · simp at answer
  · exact absurd answer (thermWrites_status_ne_notInit _ _ _ _ s)
  · exact absurd answer (writeConfig_status_ne_notInit _ _ _ _ s)
  · exact absurd answer (cmdRun_status_ne_notInit _ _ s)

/-! ## BUSADDR, and the operations of one write event: INIT, SETCFG, CMD -/

/-- R33: a list of what a write leaves under each outcome, as one implication for each. -/
theorem implications_of_oneWrite {o : Config.WriteOutcome} {P Q : Prop} (list : o = .ok ∧ P ∨ o = .fail ∧ Q) :
    (o = .ok → P) ∧ (o = .fail → Q) := by
  rcases list with ⟨rfl, p⟩ | ⟨rfl, q⟩ <;> simpa

/-- R110: the straps stand side by side below the fixed bits. -/
theorem toNat_busAddrOf (a2 a1 a0 : Bit) :
    (busAddrOf a2 a1 a0).toNat = 0x48 + 4 * a2.toNat + 2 * a1.toNat + a0.toNat := by
  revert a2 a1 a0
  decide

/-- R104, R112: the first cached byte holds the resolution alone. -/
theorem toNat_initHandle_cfgCache (a2 a1 a0 : Bit) (res : Resolution) :
    (initHandle a2 a1 a0 res).cfgCache.toNat = 32 * res.code.toNat := by
  cases res <;> rfl

/-- Settles O27: the address is a function of the straps, and the response is all that is written. -/
theorem busaddrAnswersTheAddress : Obligations.BusaddrAnswersTheAddress :=
  fun a2 a1 a0 _ => ⟨busAddrOf a2 a1 a0, rfl, toNat_busAddrOf a2 a1 a0⟩

/-- Settles O29: the successful case of INIT's list, at the handle it creates. -/
theorem initCreatesTheHandle : Obligations.InitCreatesTheHandle := by
  intro a2 a1 a0 res s ok
  obtain ⟨run, -⟩ := implications_of_oneWrite (initRun_cases s (initHandle a2 a1 a0 res))
  exact ⟨_, _, congrArg _ (run ok), toNat_busAddrOf a2 a1 a0, toNat_initHandle_cfgCache a2 a1 a0 res⟩

/-- Settles O30: the failed case of INIT's list, at the handle it creates. -/
theorem initWithFailedWriteStands : Obligations.InitWithFailedWriteStands := by
  intro a2 a1 a0 res s fail
  obtain ⟨-, run⟩ := implications_of_oneWrite (initRun_cases s (initHandle a2 a1 a0 res))
  exact ⟨_, _, congrArg _ (run fail), toNat_busAddrOf a2 a1 a0, toNat_initHandle_cfgCache a2 a1 a0 res⟩

/-- Settles O39: the configuration write with one byte cached and sent, under each outcome. -/
theorem setcfgTransmitsAndCaches : Obligations.SetcfgTransmitsAndCaches := by
  intro b s h handle
  rw [exec_setcfg_of_handle b handle]
  obtain ⟨ok, fail⟩ := implications_of_oneWrite (writeConfig_cases s h b b 0)
  exact ⟨fun o => congrArg _ (ok o), fun o => congrArg _ (fail o)⟩

/-- Settles O40: the one command write, under each outcome. -/
theorem cmdTransmitsAnyCode : Obligations.CmdTransmitsAnyCode := by
  intro b s h handle
  rw [exec_cmd_of_handle b handle]
  obtain ⟨ok, fail⟩ := implications_of_oneWrite (cmdRun_cases s b h)
  exact ⟨fun o => congrArg _ (ok o), fun o => congrArg _ (fail o)⟩

/-! ## RDTEMP -/

/-- R34, R62: the pointer byte is the pointer's number. -/
theorem toNat_pointerByte (p : Pointer) : (pointerByte p).toNat = p.code.toNat := by
  cases p <;> rfl

/-- Settles O32: the pointer check comes before the pointer write. -/
theorem rdtempRefusesTheConfigPointer : Obligations.RdtempRefusesTheConfigPointer :=
  fun _ _ handle => exec_rdtemp_of_handle .config handle

/-- Settles O31: the outcomes select the completed read, whose port carries the signed sixteenths whole. -/
theorem rdtempAnswersTheDecodedBytes : Obligations.RdtempAnswersTheDecodedBytes := by
  intro p s h b1 b2 legal handle hp write read
  refine ⟨pointerByte p, decodeValue s.params.cw s.params.fw b1 b2, ?_, toNat_pointerByte p, ?_⟩
  · rw [exec_rdtemp_of_handle p handle]
    exact congrArg _ (by simpa [hp, write, read] using rdtempRun_cases s p h)
  · rw [toInt_decodeValue legal, decodeSixteenths_eq, decodeMagnitude_eq]

/-- Settles O33: the outcomes select the failed pointer write, or the failed read after it. -/
theorem rdtempPropagatesFailure : Obligations.RdtempPropagatesFailure := by
  intro p s h handle hp
  rw [exec_rdtemp_of_handle p handle]
  refine ⟨pointerByte p, toNat_pointerByte p, fun write => congrArg _ ?_, fun write read => congrArg _ ?_⟩
  · simpa [hp, write] using rdtempRun_cases s p h
  · simpa [hp, write, read] using rdtempRun_cases s p h

/-! ## THERM -/

/-- R85: the range check fails on either side. -/
theorem not_inRange_iff (fw : Nat) (n : Int) :
    (!inRange fw n) = true ↔ n < -55 * 2 ^ fw ∨ 125 * 2 ^ fw < n := by
  rw [Bool.not_eq_true', Bool.eq_false_iff, Ne, inRange_iff, not_and_or, not_le, not_le]

/-- R120, R121: what THERM's gate accepts, in numbers. The upper bound on the trip is one on the hysteresis below it, and
the lower bound on the hysteresis one on the trip. -/
theorem thermGate_eq_zero_iff (p : Config.Params) (trip hyst : Celsius) :
    thermGate p trip hyst = 0 ↔ -55 * 2 ^ p.fw ≤ sintOf p.cw hyst ∧ sintOf p.cw hyst ≤ sintOf p.cw trip ∧
      sintOf p.cw trip ≤ 125 * 2 ^ p.fw := by
  rw [thermGate, thermInfo_eq_zero_iff, inRange_iff, inRange_iff]
  omega

/-- Settles O35: the gate is not passed, and each bit of its `info` is one failed test. -/
theorem thermRefusesInvalidSetpoints : Obligations.ThermRefusesInvalidSetpoints := by
  rintro trip hyst _ _ ft s h handle rfl rfl failed
  have refuses : thermGate s.params trip hyst ≠ 0 := by
    rw [Ne, thermGate_eq_zero_iff]
    omega
  obtain ⟨bit0, bit1, bit2⟩ := thermInfo_bits s.params.fw (sintOf s.params.cw trip) (sintOf s.params.cw hyst)
  refine ⟨thermGate s.params trip hyst, ?_, ?_, ?_, ?_⟩
  · rw [exec_therm_of_handle trip hyst ft handle]
    exact congrArg _ (if_neg refuses)
  · rw [thermGate, bit0, not_inRange_iff]
  · rw [thermGate, bit1, not_inRange_iff]
  · rw [thermGate, bit2, decide_eq_true_iff]

/-- R122: accepted setpoints are written. -/
theorem exec_therm_of_accepted {trip hyst : Celsius} (handle : s.handle = some h)
    (lower : -55 * 2 ^ s.params.fw ≤ sintOf s.params.cw hyst)
    (order : sintOf s.params.cw hyst ≤ sintOf s.params.cw trip)
    (upper : sintOf s.params.cw trip ≤ 125 * 2 ^ s.params.fw) (ft : FaultTolerance) :
    exec (.therm trip hyst ft) s = .next (thermWrites trip hyst ft h s) := by
  rw [exec_therm_of_handle trip hyst ft handle]
  exact congrArg _ (if_pos ((thermGate_eq_zero_iff s.params trip hyst).mpr ⟨lower, order, upper⟩))

/-- R123: a list of what three writes leave, stopped at the first failure, as one implication for each outcome. -/
theorem implications_of_threeWrites {o0 o1 o2 : Config.WriteOutcome} {P Q R S : Prop}
    (list : o0 = .fail ∧ P ∨ o0 = .ok ∧ o1 = .fail ∧ Q ∨ o0 = .ok ∧ o1 = .ok ∧ o2 = .ok ∧ R ∨
      o0 = .ok ∧ o1 = .ok ∧ o2 = .fail ∧ S) :
    (o0 = .fail → P) ∧ (o0 = .ok → o1 = .fail → Q) ∧ (o0 = .ok → o1 = .ok → o2 = .ok → R) ∧
      (o0 = .ok → o1 = .ok → o2 = .fail → S) := by
  rcases list with ⟨rfl, p⟩ | ⟨rfl, rfl, q⟩ | ⟨rfl, rfl, rfl, r⟩ | ⟨rfl, rfl, rfl, f⟩ <;> simpa

/-- Settles O36: the outcomes select the completed writes; both setpoints are in range, so their bytes are ENCODE's. -/
theorem thermWritesSetpointsAndConfiguration : Obligations.ThermWritesSetpointsAndConfiguration := by
  rintro trip hyst _ _ ft s h legal handle rfl rfl lower order upper w0 w1 w2
  obtain ⟨hf, -⟩ := paramsWellFormed_iff.mp legal
  refine ⟨_, _, _, _, _, ?_, toNat_encodeHigh (lower.trans order) upper, toNat_encodeLow hf _,
    toNat_encodeHigh lower (order.trans upper), toNat_encodeLow hf _, writeCache_withFt h h.cfgCache ft⟩
  obtain ⟨-, -, run, -⟩ := implications_of_threeWrites (thermWrites_cases s trip hyst ft h)
  rw [exec_therm_of_accepted handle lower order upper]
  exact congrArg _ (run w0 w1 w2)

/-- Settles O37: the outcomes select the write that fails. -/
theorem thermStopsAtTheFirstFailure : Obligations.ThermStopsAtTheFirstFailure := by
  rintro trip hyst _ _ ft s h legal handle rfl rfl lower order upper
  obtain ⟨hf, -⟩ := paramsWellFormed_iff.mp legal
  rw [exec_therm_of_accepted handle lower order upper]
  obtain ⟨tripFails, hystFails, -, configFails⟩ := implications_of_threeWrites (thermWrites_cases s trip hyst ft h)
  exact ⟨_, _, _, _, fun w0 => congrArg _ (tripFails w0), fun w0 w1 => congrArg _ (hystFails w0 w1),
    fun w0 w1 w2 => ⟨_, writeCache_withFt h h.cfgCache ft, congrArg _ (configFails w0 w1 w2)⟩,
    toNat_encodeHigh (lower.trans order) upper, toNat_encodeLow hf _,
    toNat_encodeHigh lower (order.trans upper), toNat_encodeLow hf _⟩

end Sys2Proof.Machine
end

section
/-! The wrapper family (44_unit_wrappers.md): the unit conversions undo each other, a Celsius port carries an integer of
its range whole, and what the block answers to THERM.D and RDTEMP.F. -/

namespace Sys2Proof.Machine

variable {s : State} {h : Handle} {p : Config.Params}

/-! ## The unit conversions -/

@[simp] theorem f2c_c2f (c : Rat) : f2c (c2f c) = c := by
  unfold f2c c2f
  ring

@[simp] theorem c2f_f2c (f : Rat) : c2f (f2c f) = f := by
  unfold f2c c2f
  ring

/-- Settles O56: the formulas are the definitions, and each conversion undoes the other. -/
theorem fahrenheitConversionsAreInverse : Obligations.FahrenheitConversionsAreInverse :=
  ⟨fun _ => rfl, fun _ => rfl, f2c_c2f, c2f_f2c⟩

/-! ## Celsius ports -/

@[simp] theorem sintOf_toNat {cw : Nat} (c : BitVec cw) : sintOf cw c.toNat = c.toInt := by
  rw [sintOf, BitVec.ofNat_toNat, BitVec.setWidth_eq]

/-- R6: the value of a port that carries whole sixteenths. -/
theorem valueOf_of_sixteenths (hf : 4 ≤ p.fw) {c : BitVec p.cw} {n : Int} (hc : c.toInt = n * 2 ^ (p.fw - 4)) :
    valueOf p c.toNat = n / 16 := by
  have unit : (2 : Rat) ^ p.fw = 16 * 2 ^ (p.fw - 4) := by exact_mod_cast two_pow_eq_sixteen_mul hf
  rw [valueOf, sintOf_toNat, hc, unit]
  push_cast
  exact mul_div_mul_right _ _ (by positivity)

/-- R55: an integer in the range of the port is read back from it. -/
theorem exists_portOf {cw : Nat} {n : Int} (hc : 0 < cw) (lower : -(2 ^ (cw - 1)) ≤ n) (upper : n < 2 ^ (cw - 1)) :
    ∃ c, portOf cw n = some c ∧ sintOf cw c = n := by
  refine ⟨_, if_pos ⟨lower, upper⟩, ?_⟩
  have cast : ((2 ^ (cw - 1) : Nat) : Int) = 2 ^ (cw - 1) := Nat.cast_pow 2 _
  rw [sintOf_toNat]
  exact BitVec.toInt_ofInt_eq_self hc (by omega) (by omega)

/-- R4: a legal port has a range of at least -256.0 to 256.0 degrees, the upper bound excluded. -/
theorem twoHundredFiftySix_degrees_le (legal : p.Legal) : (256 * 2 ^ p.fw : Int) ≤ 2 ^ (p.cw - 1) := by
  obtain ⟨-, hc⟩ := paramsWellFormed_iff.mp legal
  calc (256 * 2 ^ p.fw : Int) = 2 ^ (8 + p.fw) := by rw [pow_add]; rfl
    _ ≤ 2 ^ (p.cw - 1) := pow_le_pow_right₀ (by decide) (by omega)

/-! ## THERM.D -/

/-- R142: the port carries `trip - 5.0` for every trip in range. -/
theorem exists_thermD {trip : Celsius} (legal : p.Legal) (lower : -55 * 2 ^ p.fw ≤ sintOf p.cw trip)
    (upper : sintOf p.cw trip ≤ 125 * 2 ^ p.fw) :
    ∃ hyst, thermD p trip = some (.therm trip hyst .ft1) ∧ sintOf p.cw hyst = sintOf p.cw trip - 5 * 2 ^ p.fw := by
  obtain ⟨-, hc⟩ := paramsWellFormed_iff.mp legal
  have range := twoHundredFiftySix_degrees_le legal
  have positive : (0 : Int) < 2 ^ p.fw := by positivity
  obtain ⟨hyst, port, value⟩ :=
    exists_portOf (cw := p.cw) (n := sintOf p.cw trip - 5 * 2 ^ p.fw) (by omega) (by omega) (by omega)
  exact ⟨hyst, congrArg (Option.map _) port, value⟩

/-- R120: the hysteresis alone is out of range, and not above the trip. -/
theorem thermGate_eq_two {trip hyst : Celsius} (lower : -55 * 2 ^ p.fw ≤ sintOf p.cw trip)
    (upper : sintOf p.cw trip ≤ 125 * 2 ^ p.fw) (below : sintOf p.cw hyst < -55 * 2 ^ p.fw) :
    thermGate p trip hyst = 0b010 := by
  have tripPasses : inRange p.fw (sintOf p.cw trip) = true := (inRange_iff _ _).mpr ⟨lower, upper⟩
  have hystFails : inRange p.fw (sintOf p.cw hyst) = false :=
    (Bool.not_eq_true' _).mp ((not_inRange_iff _ _).mpr (.inl below))
  have order : decide (sintOf p.cw trip < sintOf p.cw hyst) = false := decide_eq_false (by omega)
  rw [thermGate, thermInfo, tripPasses, hystFails, order]
  rfl

/-- R123: once THERM writes, it can only fail on the bus. -/
theorem thermWrites_status_ne_validation (trip hyst : Celsius) (ft : FaultTolerance) (h : Handle) (s : State) :
    (thermWrites trip hyst ft h s).response.map Response.status ≠ some .validation := by
  rcases thermWrites_cases s trip hyst ft h with ⟨_, e⟩ | ⟨_, _, e⟩ | ⟨_, _, _, e⟩ | ⟨_, _, _, e⟩ <;> simp [e]

/-- Settles O58: the defaulted hysteresis is 5.0 below the trip, so it is in range exactly from a trip of -50.0 on. -/
theorem thermDefaultNeedsFiftyBelowZero : Obligations.ThermDefaultNeedsFiftyBelowZero := by
  rintro trip _ s h legal handle rfl lower upper
  have positive : (0 : Int) < 2 ^ s.params.fw := by positivity
  obtain ⟨hyst, wrapper, value⟩ := exists_thermD legal lower upper
  refine ⟨hyst, wrapper, value, fun below => ?_, fun above t he => ?_⟩
  · have gate : thermGate s.params trip hyst = 0b010 := thermGate_eq_two lower upper (by omega)
    rw [exec_therm_of_handle trip hyst .ft1 handle, thermRun, gate]
    rfl
  · rw [exec_therm_of_accepted handle (by omega) (by omega) upper] at he
    cases he
    exact thermWrites_status_ne_validation trip hyst .ft1 h s

/-! ## RDTEMP.F -/

theorem fahrenheitOf_ok (p : Config.Params) {r : Response} {c : Celsius} (ok : r.status = .ok)
    (port : r.results.cOut = some c) : fahrenheitOf p r = some (c2f (valueOf p c)) := by
  rw [fahrenheitOf, if_pos ok, port]
  rfl

/-- R145: the Fahrenheit value of `n` sixteenths of a Celsius degree. -/
theorem c2f_sixteenths (n : Rat) : c2f (n / 16) = 9 * n / 80 + 32 := by
  unfold c2f
  ring

/-- Settles O59: the completed read's port carries the signed sixteenths, which the host converts exactly. -/
theorem rdtempFahrenheitIsExact : Obligations.RdtempFahrenheitIsExact := by
  refine ⟨?_, fun _ _ failed => if_neg failed⟩
  intro p s t h b1 b2 legal handle hp write read he
  obtain ⟨hf, -⟩ := paramsWellFormed_iff.mp legal
  obtain ⟨_, c, run, -, value⟩ := rdtempAnswersTheDecodedBytes p s h b1 b2 legal handle hp write read
  rw [← decodeMagnitude_eq, ← decodeSixteenths_eq] at value
  cases run.symm.trans he
  rw [Option.bind_some, fahrenheitOf_ok s.params rfl rfl, valueOf_of_sixteenths hf value, c2f_sixteenths]

end Sys2Proof.Machine
end

section
/-! The exceptions family: the block waits where nothing is presented (R160), and each operation answers one legal response,
which changes nothing else where its status refuses (R150 to R154), or blocks in its read (R176). -/

namespace Sys2Proof.Machine

variable {s t : State}

/-- Settles O8: a step on an empty queue looks at nothing but whether a read blocks. -/
theorem blockWaitsForARequest : Obligations.BlockWaitsForARequest := by
  intro s hh hin
  simp [step, takeInput, hh, hin]

/-! ## Answers -/

/-- R59, R150, R151, R153, R154: an operation from `s` ends in `t` with a legal response whose Celsius port carries `CW`
bits; where the status refuses, that response is all that is new. -/
def State.Answers (s t : State) : Prop :=
  ∃ r : Response, t.response = some r ∧ r.legal = true ∧ r.results.cOut.all (celsiusFits s.params.cw) = true ∧
    (r.status.refuses = true → t = s.withResponse (some r))

/-- R6: a pattern of `cw` bits fits a port of `cw` bits. -/
@[simp] theorem celsiusFits_toNat {cw : Nat} (c : BitVec cw) : celsiusFits cw c.toNat = true :=
  decide_eq_true c.isLt

/-- R154: an operation that writes its response alone may refuse. -/
theorem State.answers_withResponse {r : Response} (legal : r.legal = true)
    (port : r.results.cOut.all (celsiusFits s.params.cw) = true) : s.Answers (s.withResponse (some r)) :=
  ⟨r, rfl, legal, port, fun _ => rfl⟩

/-- R151, R153: the operation ran to its end, whatever it did before. -/
theorem State.answers_of_ok {results : Results} (port : results.cOut.all (celsiusFits s.params.cw) = true)
    (response : t.response = some { status := .ok, info := 0, results := results }) : s.Answers t :=
  ⟨_, response, rfl, port, fun refuses => Bool.noConfusion refuses⟩

/-- R133, R153: the operation stopped at the bus event of number `i`, whatever it did before. -/
theorem State.answers_of_transport {i : BitVec 3} (number : i.toNat ≤ 2)
    (response : t.response = some { status := .transport, info := i, results := Results.empty }) : s.Answers t :=
  ⟨_, response, by simp [Response.legal, number], rfl, fun refuses => Bool.noConfusion refuses⟩

/-! ## Each operation -/

theorem initRun_answers (h : Handle) (s : State) : s.Answers (initRun h s) := by
  rcases initRun_cases s h with ⟨_, e⟩ | ⟨_, e⟩ <;> rw [e]
  · exact State.answers_of_ok rfl rfl
  · exact State.answers_of_transport (by decide) rfl

theorem writeConfig_answers (h : Handle) (cached sent : Byte) {i : BitVec 3} (number : i.toNat ≤ 2) (s : State) :
    s.Answers (writeConfig h cached sent i s) := by
  rcases writeConfig_cases s h cached sent i with ⟨_, e⟩ | ⟨_, e⟩ <;> rw [e]
  · exact State.answers_of_ok rfl rfl
  · exact State.answers_of_transport number rfl

theorem cmdRun_answers (code : Byte) (h : Handle) (s : State) : s.Answers (cmdRun code h s) := by
  rcases cmdRun_cases s code h with ⟨_, e⟩ | ⟨_, e⟩ <;> rw [e]
  · exact State.answers_of_ok rfl rfl
  · exact State.answers_of_transport (by decide) rfl

theorem thermWrites_answers (trip hyst : Celsius) (ft : FaultTolerance) (h : Handle) (s : State) :
    s.Answers (thermWrites trip hyst ft h s) := by
  rcases thermWrites_cases s trip hyst ft h with ⟨_, e⟩ | ⟨_, _, e⟩ | ⟨_, _, _, e⟩ | ⟨_, _, _, e⟩ <;> rw [e]
  · exact State.answers_of_transport (by decide) rfl
  · exact State.answers_of_transport (by decide) rfl
  · exact State.answers_of_ok rfl rfl
  · exact State.answers_of_transport (by decide) rfl

/-- R176: the read is the one event that may leave the operation without an answer. -/
theorem rdtempRun_answers_or_blocks (p : Pointer) (h : Handle) (s : State) :
    s.Answers (rdtempRun p h s) ∨ (rdtempRun p h s).response = none ∧ (rdtempRun p h s).hung = true := by
  rcases rdtempRun_cases s p h with
    ⟨_, e⟩ | ⟨_, _, e⟩ | ⟨_, _, _, _, _, e⟩ | ⟨_, _, _, e⟩ | ⟨_, _, _, e⟩ <;> rw [e]
  · exact .inl (State.answers_withResponse rfl rfl)
  · exact .inl (State.answers_of_transport (by decide) rfl)
  · exact .inl (State.answers_of_ok (by simp) rfl)
  · exact .inl (State.answers_of_transport (by decide) rfl)
  · exact .inr ⟨rfl, rfl⟩

/-- R50, R176: every operation answers, or is an RDTEMP that blocks. -/
theorem exec_answers_or_blocks {i : Instr} (he : exec i s = .next t) :
    s.Answers t ∨ (t.response = none ∧ t.hung = true ∧ ∃ p, i = .rdtemp p) := by
  rcases exec_cases i s t he with
    ⟨_, r, legal, _, port, rfl⟩ | ⟨_, _, rfl⟩ | ⟨_, _, _, _, _, rfl⟩ | ⟨h, p, _, hi, rfl⟩ |
    ⟨_, _, _, _, _, _, refused, rfl⟩ | ⟨h, x, y, z, _, _, _, rfl⟩ | ⟨h, x, _, _, rfl⟩ | ⟨h, x, _, _, rfl⟩
  · exact .inl (State.answers_withResponse legal port)
  · exact .inl (State.answers_withResponse rfl rfl)
  · exact .inl (initRun_answers _ s)
  · exact (rdtempRun_answers_or_blocks p h s).imp_right fun ⟨silent, hung⟩ => ⟨silent, hung, p, hi⟩
  · exact .inl (State.answers_withResponse (by simpa [Response.legal] using refused) rfl)
  · exact .inl (thermWrites_answers x y z h s)
  · exact .inl (writeConfig_answers h x x (by decide) s)
  · exact .inl (cmdRun_answers x h s)

/-- Settles O46: an operation with a response has answered, and a refusing answer is the response alone. -/
theorem refusalsTouchNothing : Obligations.RefusalsTouchNothing := by
  intro i s t r he hr refuses
  rcases exec_answers_or_blocks he with ⟨r', response, _, _, alone⟩ | ⟨silent, _, _⟩
  · cases hr.symm.trans response
    exact alone refuses
  · cases hr.symm.trans silent

/-- Settles O47: an answer without what it leaves unchanged, or the blocking RDTEMP. -/
theorem everyResponseIsLegal : Obligations.EveryResponseIsLegal := by
  intro i s t he
  exact (exec_answers_or_blocks he).imp_left fun ⟨r, response, legal, port, _⟩ => ⟨r, response, legal, port⟩

end Sys2Proof.Machine
end

section
/-! The reset and hazards family: what a step does with the reset event and while a read blocks (R170, R176), and the cache
a command leaves stale (R173). -/

namespace Sys2Proof.Machine

variable {s : State}

/-! ## The step -/

/-- R170: the reset event is taken whether or not a read blocks. -/
theorem step_of_reset {rest : List HostInput} (hin : s.inputs = .reset :: rest) :
    step s = .next (s.withInputs rest).applyReset := by
  simp [step, takeInput, hin]

/-- R176: while a read blocks there is no step, neither on a request nor with nothing presented. -/
theorem step_of_hung (hh : s.hung = true) (noReset : ∀ rest, s.inputs ≠ .reset :: rest) :
    step s = .fault .readNeverCompletes := by
  rcases hin : s.inputs with _ | ⟨_ | _, rest⟩
  case nil => simp [step, takeInput, hin, hh]
  case cons.request r => simp [step_of_presented hin, hh]
  case cons.reset => exact absurd hin (noReset rest)

/-- R44, R160: while no read blocks, the block takes a request, waits, or is reset; each ends in a next state. -/
theorem step_next_of_not_hung (hh : s.hung = false) : ∃ t, step s = .next t := by
  rcases hin : s.inputs with _ | ⟨r | _, rest⟩
  case nil => exact ⟨s, blockWaitsForARequest s hh hin⟩
  case cons.request => exact step_of_request hh hin ▸ exec_next _ (decodeInstr r)
  case cons.reset => exact ⟨_, step_of_reset hin⟩

/-- Everything a step can end in: the one stop, exactly while a read blocks with no reset presented, or a next state. -/
theorem step_stops_or_next (s : State) :
    ((s.hung = true ∧ ∀ rest, s.inputs ≠ .reset :: rest) ∧ step s = .fault .readNeverCompletes) ∨
    (¬(s.hung = true ∧ ∀ rest, s.inputs ≠ .reset :: rest) ∧ ∃ t, step s = .next t) := by
  by_cases blocked : s.hung = true ∧ ∀ rest, s.inputs ≠ .reset :: rest
  · obtain ⟨hh, noReset⟩ := blocked
    exact .inl ⟨⟨hh, noReset⟩, step_of_hung hh noReset⟩
  · refine .inr ⟨blocked, ?_⟩
    cases hh : s.hung with
    | false => exact step_next_of_not_hung hh
    | true =>
      obtain ⟨rest, hin⟩ : ∃ rest, s.inputs = .reset :: rest := by simpa [hh] using blocked
      exact ⟨_, step_of_reset hin⟩

/-- Settles O9: the reset event is taken in every state, and `State.applyReset` writes each item. -/
theorem resetEventClearsTheBlock : Obligations.ResetEventClearsTheBlock :=
  fun _ _ hin => ⟨_, step_of_reset hin, rfl, rfl, rfl, rfl, rfl, rfl, rfl⟩

/-- Settles O11: of the two ends of a step, one is a fault and none is a refusal. -/
theorem stepStopsExactlyWhileAReadBlocks : Obligations.StepStopsExactlyWhileAReadBlocks := by
  refine ⟨fun s => ?_, fun s r => ?_⟩
  · rcases step_stops_or_next s with ⟨blocked, e⟩ | ⟨free, _, e⟩
    · exact ⟨fun _ => blocked, fun _ => ⟨_, e⟩⟩
    · simp [e, free]
  · rcases step_stops_or_next s with ⟨_, e⟩ | ⟨_, _, e⟩ <;> simp [e]

/-! ## The read that never completes -/

/-- Settles O34: the outcomes select the blocked read of RDTEMP's list, which leaves the block waiting. -/
theorem blockedReadNeverAnswers : Obligations.BlockedReadNeverAnswers := by
  intro p s h handle hp write read
  refine ⟨pointerByte p, _, toNat_pointerByte p, rfl, ?_, fun noReset => step_of_hung rfl noReset⟩
  rw [exec_rdtemp_of_handle p handle]
  exact congrArg _ (by simpa [hp, write, read] using rdtempRun_cases s p h)

/-! ## The stale cache after a command -/

/-- R121: THERM answers OK only past its validation. -/
theorem thermRun_of_ok {trip hyst : Celsius} {ft : FaultTolerance} {h : Handle}
    (ok : (thermRun trip hyst ft h s).response.map Response.status = some .ok) :
    thermRun trip hyst ft h s = thermWrites trip hyst ft h s := by
  rcases thermRun_cases s trip hyst ft h with ⟨_, e⟩ | ⟨_, e⟩
  · exact e
  · rw [e] at ok
    cases ok

/-- R120, R123: the newest CONFIG byte after THERM's three writes is the handle's cache with the new fault tolerance;
of the lists of events THERM can leave, only the complete one goes with OK. -/
theorem lastConfigByte_thermWrites_of_ok {trip hyst : Celsius} {ft : FaultTolerance} {h : Handle}
    (ok : (thermWrites trip hyst ft h s).response.map Response.status = some .ok) :
    lastConfigByte (thermWrites trip hyst ft h s).history =
      some ((h.cfgCache &&& 0x67#8) ||| ft.code.zeroExtend 8 <<< 3) := by
  rcases thermWrites_cases s trip hyst ft h with ⟨_, e⟩ | ⟨_, _, e⟩ | ⟨_, _, _, e⟩ | ⟨_, _, _, e⟩ <;> rw [e] at ok ⊢
  case inr.inr.inl =>
    rw [lastConfigByte_append, writeCache_withFt]
    rfl
  all_goals cases ok

/-- Settles O55: CMD leaves the handle, so THERM writes from the cache that was there before it. -/
theorem thermAfterCommandWritesTheOldCache : Obligations.ThermAfterCommandWritesTheOldCache := by
  intro code trip hyst ft s t u h handle cmd therm ok
  rw [exec_cmd_of_handle code handle] at cmd
  cases cmd
  have kept : (cmdRun code h s).handle = some h := (cmdRun_handle code h s).trans handle
  rw [exec_therm_of_handle trip hyst ft kept] at therm
  cases therm
  have writes : thermRun trip hyst ft h (cmdRun code h s) = thermWrites trip hyst ft h (cmdRun code h s) :=
    thermRun_of_ok ok
  rw [writes] at ok ⊢
  exact lastConfigByte_thermWrites_of_ok ok

end Sys2Proof.Machine
end
